-- ==== Sys2Proof/Word.lean ====
section
/-! DEFINITION. The word of the core and the containers made of words (spec/00_scope.md R6, R8; spec/10_state.md R10, R14, R15, R19). -/

namespace Sys2Proof

/-- A word: an unsigned integer in `[0, 2^32)` (R8, `W` = 32 of R6). -/
abbrev Word := BitVec 32

/-- An index of one of the two arrays: an 8-bit unsigned index, 0..255 (R30, `SIZE_LOG` = 8 of R6). -/
abbrev Index := BitVec 8

/-- An array of exactly 256 words, never resized (R14, R15, R16): the shape of `memory` and of `results`. -/
abbrev Block := Vector Word 256

/-- The eight working scalars `s[0..7]` of an initialisation (R19). -/
abbrev Scalars := Vector Word 8

end Sys2Proof
end

