-- ==== Sys2Proof/Config.lean ====
section
/-! DEFINITION. The parameters of spec/00_scope.md R6, fixed for this hardware, and the free values: what reset leaves in the state that
spec/10_state.md R27 calls unspecified. -/

namespace Sys2Proof

/-- `SIZE`: words in `memory` and in `results`, values per block (R6). -/
abbrev Config.size : Nat := 256

/-- `HALF`: the partner offset inside `REGEN` (R6). -/
abbrev Config.half : Nat := 128

/-- `GOLDEN`: the start value of the eight working scalars (R6). -/
abbrev Config.golden : Word := 0x9e3779b9#32

/-- `CHUNK`: words per initialisation chunk, and the number of working scalars (R6). -/
abbrev Config.chunk : Nat := 8

/-- Chunks in one sweep over the pool: bases 0, 8, ..., 248 (R84), that is `SIZE / CHUNK`. -/
abbrev Config.chunks : Nat := 32

/-- `PREMIX_ROUNDS`: applications of `MIX8` before the first sweep (R6). -/
abbrev Config.premixRounds : Nat := 4

/-- `MAX_SEED`: the greatest legal seed length in words (R6). -/
abbrev Config.maxSeed : Nat := 256

/-- The number of values the 16-bit `len` field can take (`LEN_W` = 16 of R6). -/
abbrev Config.lenLimit : Nat := 65536

/-- FREE VALUE: what the `n`-th reset leaves in `memory` (R27, R145 (4); notes/assumptions/3). It has no body: nothing can be proved of it. -/
opaque Config.memoryAfterReset : Nat → Block

/-- FREE VALUE: what the `n`-th reset leaves in `results` (R27, R145 (4); notes/assumptions/3). -/
opaque Config.resultsAfterReset : Nat → Block

/-- FREE VALUE: what the `n`-th reset leaves in `a` (R27, R145 (4); notes/assumptions/3). -/
opaque Config.aAfterReset : Nat → Word

/-- FREE VALUE: what the `n`-th reset leaves in `b` (R27, R145 (4); notes/assumptions/3). -/
opaque Config.bAfterReset : Nat → Word

/-- FREE VALUE: what the `n`-th reset leaves in `c` (R27, R145 (4); notes/assumptions/3). -/
opaque Config.cAfterReset : Nat → Word

/-- FREE VALUE: what the `n`-th reset leaves in `cursor`, any 9-bit value, not only 0..256 (R27, R145 (4); notes/assumptions/3). -/
opaque Config.cursorAfterReset : Nat → BitVec 9

end Sys2Proof
end

