-- ==== Sys2Proof/Syntax.lean ====
section
/-! DEFINITION. The commands of the core as abstract syntax: one constructor per row of spec/opcode_table.json (spec/30_encoding.md R49 to R51,
which are the complete opcode map). `MIX8` and `REGEN` are internal procedures, not commands (after R51). -/

namespace Sys2Proof

/-- A whole command, header and payload (R47). The seed is the sequence of payload words in arrival order (R52). -/
inductive Instr where
  /-- `INITF`: initialise, full, two passes, seeded (R49, R80 with `full` = 1). -/
  | initf (seed : List Word)
  /-- `INITS`: initialise, single pass, empty seed (R50, R80 with `full` = 0). -/
  | inits (seed : List Word)
  /-- `NEXT`: draw the next value; format `N`, no operand (R51, R53, R95). -/
  | next
deriving DecidableEq, Repr

/-- The payload a command carries (R47, R52): nothing for format `N`. -/
def Instr.payload : Instr → List Word
  | .initf seed => seed
  | .inits seed => seed
  | .next => []

end Sys2Proof
end

