-- ==== Sys2Proof/WellFormed.lean ====
section
/-! DEFINITION. Which commands can be written on the command channel: the payload length must fit the 16-bit `len` field
(spec/30_encoding.md R47, R48). A seed of 257..65535 words is well formed: it decodes and then faults (R52, V-ENC-4). -/

namespace Sys2Proof

/-- The one check of a command's operands: `len` is 0..65535 (R47). `NEXT` has no operand to check (R53). -/
abbrev Instr.WellFormed (i : Instr) : Prop := i.payload.length < Config.lenLimit

end Sys2Proof
end

