-- ==== Sys2Proof/Decode.lean ====
section
/-! DEFINITION. The decoder of a command stream, total on any sequence of words (spec/30_encoding.md R57), the encoder written from the same
header layout (R48), and the host's reading of an opcode-table word. -/

namespace Sys2Proof

/-- What a header word says (R57): an `INIT` with its pass flag and payload length, a `NEXT`, or an illegal header (R55). -/
inductive HeaderKind where
  | init (full : Bool) (len : Nat)
  | next
  | illegal
deriving DecidableEq, Repr

/-- What stands at the front of the command channel (R57): a whole command and the words after it; an illegal header, which takes no payload
(R55); or not yet a whole command, so that the core waits for words (R52, R133). -/
inductive Decoded where
  | command (i : Instr) (rest : List Word)
  | illegal (h : Word) (rest : List Word)
  | waiting
deriving DecidableEq, Repr

/-- Header bits 31:24, `op`, the major opcode (R48). -/
def opField (h : Word) : BitVec 8 := h.extractLsb' 24 8

/-- Header bits 23:17, `z`, must be zero (R48). -/
def zField (h : Word) : BitVec 7 := h.extractLsb' 17 7

/-- Header bit 16, `P`, the pass flag (R48, R52 `full` = `header[16]`). -/
def passFlag (h : Word) : Bool := h.getLsbD 16

/-- Header bits 15:0, `len`, zero-extended, neither scaled nor biased (R48, R52). -/
def lenField (h : Word) : BitVec 16 := h.extractLsb' 0 16

/-- The header of `NEXT`: all 32 bits are fixed (R51). -/
def nextHeader : Word := 0x02000000#32

/-- Classification of a word at a header position (R57). -/
def classify (h : Word) : HeaderKind :=
  if opField h = 0x01#8 ∧ zField h = 0#7 then .init (passFlag h) (lenField h).toNat
  else if h = nextHeader then .next
  else .illegal

/-- The first `n` words of the stream and what follows them; nothing when fewer than `n` have arrived (R52). -/
def takePayload : Nat → List Word → Option (List Word × List Word)
  | 0, ws => some ([], ws)
  | _ + 1, [] => none
  | n + 1, w :: ws =>
    match takePayload n ws with
    | some (seed, rest) => some (w :: seed, rest)
    | none => none

/-- The `INIT` command that pass flag `full` selects (R48, R52). -/
def initInstr (full : Bool) (seed : List Word) : Instr :=
  if full then .initf seed else .inits seed

/-- Decode the front of a command stream (R57). A word at a payload position is never decoded. -/
def decode : List Word → Decoded
  | [] => .waiting
  | h :: ws =>
    match classify h with
    | .illegal => .illegal h ws
    | .next => .command .next ws
    | .init full len =>
      match takePayload len ws with
      | some (seed, rest) => .command (initInstr full seed) rest
      | none => .waiting

/-- A header word put together from its fields, the field of the high bits first (R48). -/
def headerWord (op : BitVec 8) (z : BitVec 7) (pass : BitVec 1) (len : BitVec 16) : Word :=
  (op ++ z ++ pass ++ len).cast rfl

/-- The header of a command (R49, R50, R51). -/
def encodeHeader : Instr → Word
  | .initf seed => headerWord 0x01#8 0#7 1#1 (BitVec.ofNat 16 seed.length)
  | .inits seed => headerWord 0x01#8 0#7 0#1 (BitVec.ofNat 16 seed.length)
  | .next => headerWord 0x02#8 0#7 0#1 0#16

/-- The words of a well-formed command: its header, then its payload in order (R47, R52). -/
def encode (i : Instr) : List Word := encodeHeader i :: i.payload

/-- How many payload words follow a header (R47, R55: none after an illegal one). -/
def payloadLength (h : Word) : Nat :=
  match classify h with
  | .init _ len => len
  | _ => 0

/-- The words of the instruction that the opcode table numbers as the `nbits` low bits of `w`, bit 0 the least significant bit of the first word:
the header, then as many payload words as it asks for, their bits above `nbits` zero. -/
def tableWords (nbits w : Nat) : List Word :=
  let bits := w % 2 ^ nbits
  let h := BitVec.ofNat 32 bits
  h :: (List.range (payloadLength h)).map fun k => BitVec.ofNat 32 (bits >>> (32 * (k + 1)))

/-- The instruction this decoder reads from an opcode-table word; none where it refuses the header. -/
def decodeTableWord (nbits w : Nat) : Option Instr :=
  match decode (tableWords nbits w) with
  | .command i _ => some i
  | .illegal _ _ => none
  | .waiting => none

end Sys2Proof
end

