-- ==== Sys2Proof/Machine/State.lean ====
section
/-! DEFINITION. The state of the core, all of spec/10_state.md R10, its two channels and reset input (spec/30_encoding.md R45, R46), and the one
field of the model's own; the ways a step can stop; the state right after reset. -/

namespace Sys2Proof.Machine

/-- The 1-bit `status` of a response: 0 = `OK`, 1 = `ERR` (R45). -/
inductive Status where
  | ok
  | err
deriving DecidableEq, Repr

/-- A response, the pair `(status, data)` (R45). -/
structure Response where
  status : Status
  data : Word
deriving DecidableEq, Repr

/-- The three faults the core raises (R125). A fault is an outcome the spec describes in full: a response `(ERR, code)` and no other effect (R132).
So it is a next state of this model, not a stop. -/
inductive FaultCause where
  /-- Raised by the decoder: the header word matches no command (R126). -/
  | illegalCommand
  /-- Raised by `INITF` and `INITS`: more than 256 payload words (R127). -/
  | seedTooLong
  /-- Raised by `NEXT`: `valid` = 0 (R128). -/
  | notInitialized
deriving DecidableEq, Repr

/-- The whole state. -/
structure State where
  /-- The entropy pool (R14). -/
  memory : Block
  /-- The most recently produced block (R15). -/
  results : Block
  /-- The shift/XOR accumulator of `REGEN` (R11, R12). -/
  a : Word
  /-- The previous-result accumulator (R11, R12). -/
  b : Word
  /-- The running counter, one increment per `REGEN` (R11, R12). -/
  c : Word
  /-- The count of unconsumed values of the block; 9 bits, legal 0..256 (R13). -/
  cursor : BitVec 9
  /-- 1 when an `INITF` or `INITS` has completed since reset (R18). -/
  valid : Bool
  /-- The command channel: words the host has sent and the core has not taken, oldest first. They are held by the interface (R25, R45, R153). -/
  commands : List Word
  /-- The response channel: the responses the core has produced, oldest first (R45, R54). -/
  responses : List Response
  /-- The reset input: the host has asserted reset and the core has not yet taken it (R46, R145). -/
  resetPending : Bool
  /-- The model's own field: how many resets have been taken; it numbers the free values of Config (notes/assumptions/3). -/
  resetCount : Nat
deriving DecidableEq, Repr

/-- Where the machine stops. -/
inductive Fault where
  /-- Raised by `NEXT` when `valid` = 1 and `cursor` holds 257..511, values that R13 calls illegal and that no rule produces: the decremented cursor
  is not an index of `results` (R16, R30). Safe: no run reaches such a state (the invariant `GeneratorInv` rules it out), and nothing is claimed past it. -/
  | cursorOutOfRange
deriving DecidableEq, Repr

/-- Requests to which the model gives no meaning. -/
inductive Refusal where
  /-- Raised by `exec` for an instruction with no meaning yet. Safe: nothing is claimed past it. No arm of this model uses it. -/
  | notModelled (mnemonic : String)
deriving DecidableEq, Repr

/-- The machine right after reset: `valid` = 0 (R26), idle, nothing received and nothing answered (R28, R145). The spec calls the other values
unspecified (R27): the zeros are DESIGN CHOICE, unsafe, notes/assumptions/1. No statement rests on them. -/
def State.reset : State where
  memory := Vector.replicate 256 0#32
  results := Vector.replicate 256 0#32
  a := 0#32
  b := 0#32
  c := 0#32
  cursor := 0#9
  valid := false
  commands := []
  responses := []
  resetPending := false
  resetCount := 0

end Sys2Proof.Machine
end

