-- ==== Sys2Proof/Machine/Flags.lean ====
section
/-! DEFINITION. The one flag, `valid` (spec/10_state.md R18). There are no condition codes: no operation records an overflow (R18, R65). -/

namespace Sys2Proof.Machine

/-- `valid <- 1`, the last state change of an initialisation (R18, R89). -/
def State.setValid (s : State) : State := { s with valid := true }

/-- `valid <- 0`, done by reset alone (R18, R145). -/
def State.clearValid (s : State) : State := { s with valid := false }

/-- The test `valid = 0`, made only by `NEXT` (R18, R96). -/
def State.uninitialised (s : State) : Bool := !s.valid

end Sys2Proof.Machine
end

