-- ==== Sys2Proof/Machine/Arith.lean ====
section
/-! DEFINITION. The four word operations, the only ones the core has (spec/40_arith_and_mixer.md R65 to R70). None faults, none sets a flag. -/

namespace Sys2Proof.Machine

/-- `add32(x, y)` = `(x + y) mod 2^32` (R66). -/
def add32 (x y : Word) : Word := x + y

/-- `xor32(x, y)`: bitwise exclusive or (R67). -/
def xor32 (x y : Word) : Word := x ^^^ y

/-- `shl32(x, k)` = `(x * 2^k) mod 2^32`, `k` a constant in 1..31 (R68). -/
def shl32 (x : Word) (k : Nat) : Word := x <<< k

/-- `shr32(x, k)` = `floor(x / 2^k)`, the logical right shift, `k` a constant in 1..31 (R69). -/
def shr32 (x : Word) (k : Nat) : Word := x >>> k

end Sys2Proof.Machine
end

