-- ==== Sys2Proof/Machine/Operands.lean ====
section
/-! DEFINITION. The five ways an index is formed (spec/20_memory.md R32) and the operands of a command (spec/30_encoding.md R52). -/

namespace Sys2Proof.Machine

/-- Form (1), direct: the loop index `k`, 0..255 (R32). -/
def directIndex (k : Nat) : Index := BitVec.ofNat 8 k

/-- Form (2), chunk-relative: element `t` (0..7) of chunk `g` (0..31), whose base is `i` = `8 * g` (R32, R84). -/
def chunkIndex (g t : Nat) : Index := BitVec.ofNat 8 (Config.chunk * g + t)

/-- Form (3), partner: `j = (i + 128) mod 256` (R32, R111). -/
def partner (i : Index) : Index := i + BitVec.ofNat 8 Config.half

/-- Form (4), indirect: `lookup(x)` = `x[9:2]` (R108). -/
def lookup (x : Word) : Index := x.extractLsb' 2 8

/-- Form (4), indirect: `lookup2(y)` = `y[17:10]` (R109). -/
def lookup2 (y : Word) : Index := y.extractLsb' 10 8

/-- Form (5), cursor: `results[cursor]`, `cursor` already decremented; nothing when the cursor is no index of `results` (R32, R13). -/
def resultAt (results : Block) (cursor : BitVec 9) : Option Word := results[cursor.toNat]?

/-- The seed operand, zero filled: `(k < n) ? seed[k] : 0` (R81). -/
def seedWord (seed : List Word) (k : Nat) : Word := seed.getD k 0#32

end Sys2Proof.Machine
end

