-- ==== Sys2Proof/Machine/Ops.lean ====
section
/-! DEFINITION. The named operations over the state: reads and writes of the two arrays and of the scalars, the response channel, taking a fault
(spec/60_exceptions.md R132), taking a reset (spec/70_reset_and_hazards.md R145), waiting, what the host does to the channels, and counted loops. -/

namespace Sys2Proof.Machine

/-- `MemRead(memory, i)` (R8, R33). -/
def State.readMemory (s : State) (i : Index) : Word := s.memory[i.toNat]'i.isLt

/-- `MemWrite(memory, i, v)` (R8, R33). -/
def State.writeMemory (s : State) (i : Index) (v : Word) : State := { s with memory := s.memory.set i.toNat v i.isLt }

/-- `MemRead(results, i)` (R8, R33). -/
def State.readResults (s : State) (i : Index) : Word := s.results[i.toNat]'i.isLt

/-- `MemWrite(results, i, v)` (R8, R33). -/
def State.writeResults (s : State) (i : Index) (v : Word) : State := { s with results := s.results.set i.toNat v i.isLt }

/-- `a <- v` (R8). -/
def State.setA (s : State) (v : Word) : State := { s with a := v }

/-- `b <- v` (R8). -/
def State.setB (s : State) (v : Word) : State := { s with b := v }

/-- `c <- v` (R8). -/
def State.setC (s : State) (v : Word) : State := { s with c := v }

/-- `cursor <- v` (R8). -/
def State.setCursor (s : State) (v : BitVec 9) : State := { s with cursor := v }

/-- The words left on the command channel once the words before them have been taken (R57, `take()`). -/
def State.setCommands (s : State) (rest : List Word) : State := { s with commands := rest }

/-- Produce one response (R45, R54). -/
def State.respond (s : State) (r : Response) : State := { s with responses := s.responses ++ [r] }

/-- Respond `(OK, v)` (R54). -/
def State.respondOk (s : State) (v : Word) : State := s.respond ⟨.ok, v⟩

/-- The cause code of a fault (R125). -/
def FaultCause.code : FaultCause → Word
  | .illegalCommand => 0x00000001#32
  | .seedTooLong => 0x00000002#32
  | .notInitialized => 0x00000003#32

/-- TAKING A FAULT (R132): no state change, nothing saved, control goes nowhere; the response `(ERR, code)` is produced, and the core is at once
ready for the next command, so there is no return to model. -/
def State.takeFault (s : State) (f : FaultCause) : State := s.respond ⟨.err, f.code⟩

/-- An illegal header at the front of the command channel (R55, R126): that one word is taken and `IllegalCommand` is raised. -/
def takeIllegalHeader (rest : List Word) (s : State) : Host.Outcome State Fault Refusal :=
  .next ((s.setCommands rest).takeFault .illegalCommand)

/-- No whole command has arrived: the core is idle or waits for payload words; it changes no state and gives no response (R28, R52, R57, R133).
DEDUCED: the wait is a step that leaves the state as it is (notes/assumptions/4). -/
def awaitWords (s : State) : Host.Outcome State Fault Refusal := .next s

/-- TAKING A RESET (R145): `valid <- 0`; the command in progress and the words received are discarded with no response; `memory`, `results`, `a`,
`b`, `c` and `cursor` hold free values, new ones at every reset (R27). Responses already produced stay (DEDUCED, notes/assumptions/5). -/
def State.takeReset (s : State) : State :=
  { s.clearValid with
    memory := Config.memoryAfterReset s.resetCount
    results := Config.resultsAfterReset s.resetCount
    a := Config.aAfterReset s.resetCount
    b := Config.bAfterReset s.resetCount
    c := Config.cAfterReset s.resetCount
    cursor := Config.cursorAfterReset s.resetCount
    commands := []
    resetPending := false
    resetCount := s.resetCount + 1 }

/-- What the host does: send words on the command channel, in order (R45). -/
def State.send (s : State) (ws : List Word) : State := { s with commands := s.commands ++ ws }

/-- What the host does: assert the reset input (R145). -/
def State.assertReset (s : State) : State := { s with resetPending := true }

/-- Place words at the front of the command channel, with no reset pending, so that they are what the core takes next. -/
def State.placeNext (s : State) (ws : List Word) : State :=
  { s with commands := ws ++ s.commands, resetPending := false }

/-- `for k in 0..n-1`: run `body 0`, `body 1`, ..., `body (n-1)` in ascending order, each on what the one before it left (R8, Sequencing).
Irreducible, so that a proof does not unroll 256 turns by accident: `forUp_zero` and `forUp_succ` (Laws/Loops.lean) are its equations. -/
@[irreducible] def forUp {σ : Type} (body : Nat → σ → σ) : Nat → σ → σ
  | 0, x => x
  | n + 1, x => body n (forUp body n x)

/-- Both arrays have exactly 256 elements (R16, R22 (a)): the canonical form of the two memories. The types give it for every state. -/
abbrev Memory.wf (s : State) : Prop := s.memory.toList.length = Config.size ∧ s.results.toList.length = Config.size

end Sys2Proof.Machine
end

