-- ==== Sys2Proof/Machine/Mixer.lean ====
section
/-! DEFINITION. The state mixer `MIX8` (spec/40_arith_and_mixer.md R72): a pure function from eight words to eight words (R73). The shift amounts and
the data flow are the spec's, which marks them as its own general knowledge (R72, GK1). -/

namespace Sys2Proof.Machine

/-- Read working scalar `k mod 8`. -/
def scalar (s : Scalars) (k : Nat) : Word := s[k % 8]'(Nat.mod_lt k (by decide))

/-- Write working scalar `k mod 8`. -/
def setScalar (s : Scalars) (k : Nat) (v : Word) : Scalars := s.set (k % 8) v (Nat.mod_lt k (by decide))

/-- `SH_t(v)`, the shift of sub-step `t` (R72). -/
def mixShift (t : Nat) (v : Word) : Word :=
  match t with
  | 0 => shl32 v 11
  | 1 => shr32 v 2
  | 2 => shl32 v 8
  | 3 => shr32 v 16
  | 4 => shl32 v 10
  | 5 => shr32 v 4
  | 6 => shl32 v 8
  | _ => shr32 v 9

/-- Sub-step `t` of `MIX8`: three updates in the order written, each seeing the ones before it (R72). -/
def mixStep (t : Nat) (s : Scalars) : Scalars :=
  let s := setScalar s t (xor32 (scalar s t) (mixShift t (scalar s (t + 1))))
  let s := setScalar s (t + 3) (add32 (scalar s (t + 3)) (scalar s t))
  setScalar s (t + 1) (add32 (scalar s (t + 1)) (scalar s (t + 2)))

/-- `MIX8`: the eight sub-steps `t` = 0..7 in that order (R72). -/
def mix8 (s : Scalars) : Scalars := forUp mixStep 8 s

end Sys2Proof.Machine
end

