-- ==== Sys2Proof/Machine/Regen.lean ====
section
/-! DEFINITION. The block regenerator `REGEN`, an internal procedure (spec/43_regenerate.md R105 to R111). It cannot fault (R113). -/

namespace Sys2Proof.Machine

/-- `A_q(a)`, the shift of slot `i`, `q = i mod 4` (R110). -/
def slotShift (i : Index) (a : Word) : Word :=
  match i.toNat % 4 with
  | 0 => shl32 a 13
  | 1 => shr32 a 6
  | 2 => shl32 a 2
  | _ => shr32 a 16

/-- The counter step, once per `REGEN`: `c <- add32(c, 1)`, then `b <- add32(b, c)` with the new `c` (R106). -/
def counterStep (s : State) : State :=
  let s := s.setC (add32 s.c 1#32)
  s.setB (add32 s.b s.c)

/-- The slot step for index `i`, its accesses in the order of R107 and R39. -/
def slotStep (i : Index) (s : State) : State :=
  let x := s.readMemory i
  let s := s.setA (xor32 s.a (slotShift i s.a))
  let s := s.setA (add32 s.a (s.readMemory (partner i)))
  let y := add32 (add32 (s.readMemory (lookup x)) s.a) s.b
  let s := s.writeMemory i y
  let s := s.setB (add32 (s.readMemory (lookup2 y)) x)
  s.writeResults i s.b

/-- The first `n` slot steps, in ascending order of `i` (R105). -/
def slotSteps (n : Nat) (s : State) : State := forUp (fun k => slotStep (directIndex k)) n s

/-- `REGEN`: the counter step, then the 256 slot steps (R105). -/
def regen (s : State) : State := slotSteps Config.size (counterStep s)

end Sys2Proof.Machine
end

