-- ==== Sys2Proof/Machine/Init.lean ====
section
/-! DEFINITION. The initialisation commands `INITF` and `INITS`, one parametrised rule (spec/41_init.md R80) and its steps (R81 to R91). -/

namespace Sys2Proof.Machine

/-- Step 1: the seed into `results`, zero filled (R81). -/
def seedCopy (seed : List Word) (s : State) : State :=
  forUp (fun k s => s.writeResults (directIndex k) (seedWord seed k)) Config.size s

/-- `a <- 0; b <- 0; c <- 0` (R82). -/
def zeroAccumulators (s : State) : State := ((s.setA 0#32).setB 0#32).setC 0#32

/-- Step 2a: eight scalars at `GOLDEN`, then four applications of `MIX8` (R83). -/
def preMix : Scalars := forUp (fun _ => mix8) Config.premixRounds (Vector.replicate 8 Config.golden)

/-- `for t in 0..7: s[t] <- add32(s[t], word t)`: fold eight words into the scalars (R84, R85). -/
def foldIn (word : Nat → Word) (sc : Scalars) : Scalars :=
  forUp (fun t sc => setScalar sc t (add32 (scalar sc t) (word t))) Config.chunk sc

/-- `for t in 0..7: memory[i+t] <- s[t]`, `i` the base of chunk `g` (R84, R85). -/
def storeChunk (g : Nat) (sc : Scalars) (s : State) : State :=
  forUp (fun t s => s.writeMemory (chunkIndex g t) (scalar sc t)) Config.chunk s

/-- Step 2b, chunk `g`: fold the eight words of `results` if the pass is seeded, mix, store (R84, R86). The scalars are carried on. -/
def firstSweepChunk (full : Bool) (g : Nat) (w : Scalars × State) : Scalars × State :=
  let sc := if full then foldIn (fun t => w.2.readResults (chunkIndex g t)) w.1 else w.1
  let sc := mix8 sc
  (sc, storeChunk g sc w.2)

/-- Step 2b: the first `n` chunks of the first sweep, in ascending order (R84). -/
def firstSweep (full : Bool) (n : Nat) (w : Scalars × State) : Scalars × State := forUp (firstSweepChunk full) n w

/-- Step 2c, chunk `g`: fold the eight words of `memory` itself, mix, store (R85). -/
def secondSweepChunk (g : Nat) (w : Scalars × State) : Scalars × State :=
  let sc := mix8 (foldIn (fun t => w.2.readMemory (chunkIndex g t)) w.1)
  (sc, storeChunk g sc w.2)

/-- Step 2c: the first `n` chunks of the second sweep, in ascending order, from the scalars the first sweep left (R85). -/
def secondSweep (n : Nat) (w : Scalars × State) : Scalars × State := forUp secondSweepChunk n w

/-- Step 2 as a whole: pre-mix, first sweep, and for `INITF` the second sweep (R83 to R86). -/
def mixPool (full : Bool) (s : State) : State :=
  let w := firstSweep full Config.chunks (preMix, s)
  if full then (secondSweep Config.chunks w).2 else w.2

/-- All that an accepted `INIT` does to the state before its response: steps 1 to 4 (R80 to R89). -/
def initGenerator (full : Bool) (seed : List Word) (s : State) : State :=
  let s := zeroAccumulators (seedCopy seed s)
  let s := regen (mixPool full s)
  (s.setCursor 256#9).setValid

/-- `INIT(full, n, seed)` (R80): an over-long seed raises `SeedTooLong` before anything is written (R91); otherwise the generator is made and the
response is `(OK, 0)` (R89). -/
def initCommand (full : Bool) (seed : List Word) (s : State) : State :=
  if seed.length > Config.maxSeed then s.takeFault .seedTooLong
  else (initGenerator full seed s).respondOk 0#32

/-- `INITF` (R49; R80 with `full` = 1). -/
def execInitf (seed : List Word) (s : State) : Host.Outcome State Fault Refusal := .next (initCommand true seed s)

/-- `INITS` (R50; R80 with `full` = 0; R86). -/
def execInits (seed : List Word) (s : State) : Host.Outcome State Fault Refusal := .next (initCommand false seed s)

end Sys2Proof.Machine
end

