-- ==== Sys2Proof/Machine/Next.lean ====
section
/-! DEFINITION. The draw command `NEXT` and the cursor control (spec/42_next.md R95 to R97). -/

namespace Sys2Proof.Machine

/-- `if cursor = 0: REGEN(); cursor <- 256` (R95, R97 (1)): regeneration is lazy (R23). -/
def refill (s : State) : State :=
  if s.cursor = 0#9 then (regen s).setCursor 256#9 else s

/-- `cursor <- cursor - 1`, then respond with `results[cursor]` (R95, R97 (2), (3)). A cursor of 257..511 has no rule (R13): the machine stops. -/
def drawValue (s : State) : Host.Outcome State Fault Refusal :=
  let s := s.setCursor (s.cursor - 1#9)
  match resultAt s.results s.cursor with
  | some v => .next (s.respondOk v)
  | none => .fault .cursorOutOfRange

/-- `NEXT` (R95): the test of `valid` comes first (R96). -/
def execNext (s : State) : Host.Outcome State Fault Refusal :=
  if s.uninitialised then .next (s.takeFault .notInitialized) else drawValue (refill s)

end Sys2Proof.Machine
end

