-- ==== Sys2Proof/Machine/Dispatch.lean ====
section
/-! DEFINITION. One arm per command (spec/opcode_table.json). The words of the command have already been taken from the command channel. -/

namespace Sys2Proof.Machine

def exec (i : Instr) (s : State) : Host.Outcome State Fault Refusal :=
  match i with
  | .initf seed => Sys2Proof.Machine.execInitf seed s
  | .inits seed => Sys2Proof.Machine.execInits seed s
  | .next => Sys2Proof.Machine.execNext s

end Sys2Proof.Machine
end

