-- ==== Sys2Proof/Machine/Step.lean ====
section
/-! DEFINITION. One step: one whole command, from the state before it to the state after it and one response (spec/70_reset_and_hazards.md R151,
R153), or a reset (R145), or a wait for words (spec/30_encoding.md R57). -/

namespace Sys2Proof.Machine

/-- One step. A pending reset comes first, since it discards the words not yet executed (R145); otherwise the front of the command channel is decoded
and, if a whole command has arrived, its words are taken and it is executed (R57). -/
def step (s : State) : Host.Outcome State Fault Refusal :=
  if s.resetPending then .next s.takeReset
  else
    match decode s.commands with
    | .command i rest => exec i (s.setCommands rest)
    | .illegal _ rest => takeIllegalHeader rest s
    | .waiting => awaitWords s

/-- `s` with the opcode-table word `w` (its `nbits` low bits, payload words of zeros) as the next words on the command channel. This is how the host gives
the core a command (R45); notes/assumptions/6 says how commands come to run from reset. -/
def State.withFetchWord (s : State) (nbits w : Nat) : State := s.placeNext (tableWords nbits w)

end Sys2Proof.Machine
end

