-- ==== Sys2Proof/Safety.lean ====
section
/-! DEFINITION. The terms in which claims speak: the invariant between commands (spec/10_state.md R22), the states a reset may leave
(spec/70_reset_and_hazards.md R145), repeated draws and regenerations (spec/42_next.md R98), and the chain of scalars of a sweep (spec/41_init.md R84). -/

namespace Sys2Proof.Machine

/-- The invariant of R22 (c) and (e): with `valid` = 1 the cursor is 0..256 and `b` is the last word of the block. (a) and (b) hold by the types. -/
abbrev GeneratorInv (s : State) : Prop :=
  s.valid = true → s.cursor.toNat ≤ 256 ∧ s.b = s.readResults 255#8

/-- What R145 fixes of the state right after a reset; the rest may be anything. -/
abbrev AfterReset (s : State) : Prop := s.valid = false ∧ s.commands = [] ∧ s.resetPending = false

/-- The same generator: all of the architectural state of R10 agrees. The channels and the reset input are not part of it. -/
abbrev SameGenerator (s t : State) : Prop :=
  s.memory = t.memory ∧ s.results = t.results ∧ s.a = t.a ∧ s.b = t.b ∧ s.c = t.c ∧ s.cursor = t.cursor ∧ s.valid = t.valid

/-- The channels towards the core and the model's own counter agree: what no command writes once its words are taken. -/
abbrev SameInputs (s t : State) : Prop :=
  s.commands = t.commands ∧ s.resetPending = t.resetPending ∧ s.resetCount = t.resetCount

/-- `NEXT` executed `m` times in a row, stopping where one stops. -/
def nextTimes : Nat → State → Host.Outcome State Fault Refusal
  | 0, s => .next s
  | m + 1, s =>
    match exec .next s with
    | .next t => nextTimes m t
    | .fault f => .fault f
    | .refused r => .refused r

/-- `REGEN` run `q` times: what stands before and after it are the successive blocks `B_1`, `B_2`, ... of R98. -/
def regenTimes : Nat → State → State
  | 0, s => s
  | q + 1, s => regen (regenTimes q s)

/-- The working scalars before chunk `g` of a sweep that begins with `start` and folds `word h t` into scalar `t` in chunk `h`: each chunk goes on from the
one before it (R84, R85). -/
def sweepScalars (start : Scalars) (word : Nat → Fin 8 → Word) : Nat → Scalars
  | 0 => start
  | g + 1 => mix8 (Vector.ofFn fun t : Fin 8 => (sweepScalars start word g)[t] + word g t)

end Sys2Proof.Machine
end

