-- ==== Sys2Proof/Certificates/Slice0/Obligations.lean ====
section
/-! DEFINITION. The statements about this machine, each from a numbered rule of spec/. Record updates spell out every field that changes, so
each equation is also the frame: what it does not name is unchanged. -/

open Sys2Proof Sys2Proof.Machine

/-- Tier 3. Every well-formed command, at every seed its header admits and whatever words follow, is read back as itself, its payload taken exactly and
the rest left (R47 to R52, R57). -/
def Obligations.DecodeOfEncodeIsTheCommand : Prop :=
  ∀ (i : Instr) (rest : List Word), i.WellFormed → decode (encode i ++ rest) = .command i rest

/-- Tier 2. A stream that decodes to a command begins with the words of that command, and the command is well formed: no two streams of one command
differ (R47 to R52). -/
def Obligations.EncodeOfDecodedIsTheStream : Prop :=
  ∀ (ws rest : List Word) (i : Instr), decode ws = .command i rest → i.WellFormed ∧ ws = encode i ++ rest

/-- Tier 2. R55, R126: the illegal headers are exactly the four listed sets; such a header raises `IllegalCommand`, takes that one word and no payload,
changes nothing else, and gives `(ERR, 1)`; the all-zero and the all-ones word are among them. The fields are read here as numbers: `op` is
`h / 2^24`, `z` is `h / 2^17 mod 2^7`. -/
def Obligations.IllegalHeadersFaultAndTakeOneWord : Prop :=
  let illegal : Word → Prop := fun h =>
    h.toNat / 2 ^ 24 = 0 ∨ 3 ≤ h.toNat / 2 ^ 24 ∨ (h.toNat / 2 ^ 24 = 1 ∧ h.toNat / 2 ^ 17 % 2 ^ 7 ≠ 0) ∨
      (h.toNat / 2 ^ 24 = 2 ∧ h.toNat % 2 ^ 24 ≠ 0)
  (∀ (h : Word) (ws : List Word), decode (h :: ws) = .illegal h ws ↔ illegal h) ∧
  (∀ (s : State) (h : Word) (rest : List Word), s.resetPending = false → s.commands = h :: rest → illegal h →
    step s = .next { s with commands := rest, responses := s.responses ++ [⟨.err, 1#32⟩] }) ∧
  illegal 0#32 ∧ illegal 0xFFFFFFFF#32

/-- Tier 2. R52, R57, R133: with no word, or with an `INIT` header and fewer payload words than its `len`, whatever they look like, the core waits: no
state changes and no response. That waiting is a step that changes nothing is the model's own choice (notes/assumptions/4). -/
def Obligations.IncompleteCommandWaits : Prop :=
  ∀ (s : State), s.resetPending = false →
    (s.commands = [] → step s = .next s) ∧
    (∀ (h : Word) (ws : List Word), s.commands = h :: ws → h.toNat / 2 ^ 17 = 128 → ws.length < h.toNat % 2 ^ 16 → step s = .next s)

/-- Tier 1. Words written out from R49 to R51 and the framing example of R57: each decodes to the command it stands for. A sanity statement. -/
def Obligations.WrittenOutWordsDecode : Prop :=
  decode [0x01010000#32] = .command (.initf []) [] ∧
  decode [0x01010002#32, 0x02000000#32, 0x01010004#32, 0x02000000#32] = .command (.initf [0x02000000#32, 0x01010004#32]) [0x02000000#32] ∧
  decode [0x01000001#32, 0x00000009#32] = .command (.inits [0x00000009#32]) [] ∧
  decode [0x02000000#32, 0x01010001#32] = .command .next [0x01010001#32]

/-- Tier 1. R57, R151: when no reset is pending and the front of the command channel decodes to a command, a step takes that command's words off the
channel and is `exec` of it. -/
def Obligations.StepRunsTheDecodedCommand : Prop :=
  ∀ (s : State) (i : Instr) (rest : List Word), s.resetPending = false → decode s.commands = .command i rest →
    step s = exec i { s with commands := rest }

/-- Tier 1. R145: a reset, whatever was going on, leaves `valid` = 0, no command in progress and no word received; it gives no response; and the next words
to arrive are decoded from a header on. Nothing is said of the other values (R27). That a pending reset is one step, and that responses already produced
stay, are the model's own (notes/assumptions/3, 5). -/
def Obligations.ResetClearsValidAndDiscardsCommands : Prop :=
  ∀ (s : State), s.resetPending = true →
    ∃ t, step s = .next t ∧ AfterReset t ∧ t.responses = s.responses ∧
      ∀ (i : Instr) (rest : List Word), decode rest = .command i [] → step (t.send rest) = exec i t

/-- Tier 1. The machine after power-up is a state that R145 allows (R26, R28), and the invariant holds there and after every reset. No clause rests on a
value that R27 leaves unspecified. -/
def Obligations.ResetStatesMeetTheInvariant : Prop :=
  AfterReset State.reset ∧ GeneratorInv State.reset ∧ ∀ s : State, GeneratorInv s.takeReset

/-- Tier 3. R22 (c), (e): whatever the step does, a state in which `valid` = 1 implies that `cursor` is 0..256 and that `b` = `results[255]` is followed by
such a state. -/
def Obligations.EveryStepKeepsTheInvariant : Prop :=
  ∀ (s t : State), GeneratorInv s → step s = .next t → GeneratorInv t

/-- Tier 2. R129: nothing else stops the machine. From every state that meets the invariant, whatever words are on the channel, the step answers a
next state. On an empty channel or a short payload that next state is the wait, the same state (R133; that the wait is a step is the model's own reading,
notes/assumptions/4). -/
def Obligations.NoStepStopsUnderTheInvariant : Prop :=
  ∀ (s : State), GeneratorInv s → ∃ t, step s = .next t

/-- Tier 2. R18: after any step `valid` is 0 if the step took a reset, and otherwise 1 exactly if it was 1 or the step executed an `INITF` or `INITS` of at
most 256 words. So no command clears it, a fault leaves it, and only an initialisation sets it. -/
def Obligations.ValidIsSetByInitAndClearedByReset : Prop :=
  ∀ (s t : State), step s = .next t →
    (t.valid = true ↔ s.resetPending = false ∧ (s.valid = true ∨
      ∃ seed rest, (decode s.commands = .command (.initf seed) rest ∨ decode s.commands = .command (.inits seed) rest) ∧
        seed.length ≤ 256))

/-- Tier 2. R54 with the codes of R125: every command that completes gives exactly one response, appended to the earlier ones, and that response is the one
the table names. For `NEXT` it is `results[cursor]` after the decrement. -/
def Obligations.EveryCommandGivesOneResponse : Prop :=
  ∀ (s t : State), s.resetPending = false → step s = .next t →
    (∀ h rest, decode s.commands = .illegal h rest → t.commands = rest ∧ t.responses = s.responses ++ [⟨.err, 1#32⟩]) ∧
    (∀ seed rest, decode s.commands = .command (.initf seed) rest ∨ decode s.commands = .command (.inits seed) rest →
      t.commands = rest ∧ t.responses = s.responses ++ [if 256 < seed.length then ⟨.err, 2#32⟩ else ⟨.ok, 0#32⟩]) ∧
    (∀ rest, decode s.commands = .command .next rest → t.commands = rest ∧
      (s.valid = false → t.responses = s.responses ++ [⟨.err, 3#32⟩]) ∧
      (s.valid = true → ∃ h : t.cursor.toNat < 256, t.responses = s.responses ++ [⟨.ok, t.results[t.cursor.toNat]⟩]))

/-- Tier 2. R132, R125: a step that answers `ERR` has changed nothing but the two channels, and its code is 1, 2 or 3. -/
def Obligations.FaultsLeaveNoTrace : Prop :=
  ∀ (s t : State) (d : Word), step s = .next t → t.responses = s.responses ++ [⟨.err, d⟩] →
    t = { s with commands := t.commands, responses := t.responses } ∧ (d = 1#32 ∨ d = 2#32 ∨ d = 3#32)

/-- Tier 2. R127, R91: an `INITF` or `INITS` of 257..65535 words, in any state, has all its payload taken and discarded, changes no state, and answers
`(ERR, 2)`; the words after the payload stay on the channel. -/
def Obligations.OverlongSeedIsRejected : Prop :=
  ∀ (s : State) (seed rest : List Word) (i : Instr), (i = .initf seed ∨ i = .inits seed) → s.resetPending = false →
    256 < seed.length → seed.length < 65536 → s.commands = encode i ++ rest →
    step s = .next { s with commands := rest, responses := s.responses ++ [⟨.err, 2#32⟩] }

/-- Tier 2. Completion of `INITF` and `INITS` (R29, R88, R89): with at most 256 words, in any state, the command completes with `valid` = 1, `cursor` = 256,
`c` = 1, `b` = `results[255]` and the response `(OK, 0)`; it leaves the words still on the channel, the reset input and the model's counter alone. -/
def Obligations.InitCompletesWithAFreshBlock : Prop :=
  ∀ (s : State) (seed : List Word) (i : Instr), (i = .initf seed ∨ i = .inits seed) → seed.length ≤ 256 →
    ∃ t, exec i s = .next t ∧ t.valid = true ∧ t.cursor = 256#9 ∧ t.c = 1#32 ∧ t.b = t.readResults 255#8 ∧
      t.responses = s.responses ++ [⟨.ok, 0#32⟩] ∧ SameInputs t s

/-- Tier 2. R80, R82, R85, R86, R88: the generator that an accepted `INITF` or `INITS` leaves is one `REGEN` run from `a` = `b` = `c` = 0 and the pool that
steps 1 and 2 left; whatever else the state it runs in holds. That pool is, for `INITF`, the second sweep run on from the scalars AND the pool that the first,
seeded, sweep left; for `INITS` it is what the first sweep alone leaves, without the seed. That `INITS` folds no seed is notes/assumptions/9; the zero
accumulators and the scalars carried from sweep to sweep are general knowledge of the spec, notes/assumptions/10. -/
def Obligations.InitEndsInOneRegenFromZero : Prop :=
  (∀ (s u : State) (seed : List Word) (full : Bool), seed.length ≤ 256 →
    u.memory = (mixPool full (seedCopy seed s)).memory → u.a = 0#32 → u.b = 0#32 → u.c = 0#32 →
    ∃ t, exec (if full then .initf seed else .inits seed) s = .next t ∧
      t.memory = (regen u).memory ∧ t.results = (regen u).results ∧ t.a = (regen u).a ∧ t.b = (regen u).b ∧ t.c = (regen u).c) ∧
  (∀ s : State, mixPool true s = (secondSweep 32 (firstSweep true 32 (preMix, s))).2) ∧
  (∀ s : State, mixPool false s = (firstSweep false 32 (preMix, s)).2)

/-- Tier 2. R81: the seed copy gives `results[k]` the word `seed[k]` for `k < n` and 0 for `n <= k <= 255`, whatever `results` held, and writes nothing else. -/
def Obligations.SeedCopyFillsResults : Prop :=
  ∀ (s : State) (seed : List Word), seed.length ≤ 256 →
    (∀ (k : Nat) (hk : k < 256), (seedCopy seed s).results[k] = if h : k < seed.length then seed[k] else 0#32) ∧
    seedCopy seed s = { s with results := (seedCopy seed s).results }

/-- Tier 2. R83, R74: the pre-mixed scalars are eight words 0x9e3779b9 put through `MIX8` four times, and they are the fixed vector of the rule. R84, R86: the
first sweep starts from them. Chunk `g` adds, if the pass is seeded, `results[8g+t]` into scalar `t`, mixes once, and
its scalars are what `memory[8g+t]` holds when the sweep ends and what chunk `g + 1` starts from. Only `memory` is written. That the single pass folds no seed is notes/assumptions/9. -/
def Obligations.FirstSweepChainsTheChunks : Prop :=
  preMix = mix8 (mix8 (mix8 (mix8 (Vector.replicate 8 0x9e3779b9#32)))) ∧
  preMix = #v[0x1367df5a#32, 0x95d90059#32, 0xc3163e4b#32, 0x0f421ad8#32, 0xd92a4a78#32, 0xa51a3c49#32, 0xc4efea1b#32, 0x30609119#32] ∧
  ∀ (s : State) (full : Bool),
    let sc : Nat → Scalars := fun g => (firstSweep full g (preMix, s)).1
    let u := (firstSweep full 32 (preMix, s)).2
    sc 0 = preMix ∧
    (∀ g : Nat, g < 32 →
      sc (g + 1) = mix8 (if full then Vector.ofFn (fun t : Fin 8 => (sc g)[t] + s.readResults (BitVec.ofNat 8 (8 * g + t))) else sc g)) ∧
    (∀ (g : Nat) (t : Fin 8), g < 32 → u.readMemory (BitVec.ofNat 8 (8 * g + t)) = (sc (g + 1))[t]) ∧
    u = { s with memory := u.memory }

/-- Tier 2. R85: the second sweep goes on from the scalars it is given. Chunk `g` adds the word `memory[8g+t]` that stood there BEFORE the sweep into scalar
`t`, mixes once, and its scalars are what `memory[8g+t]` holds after it. Only `memory` is written. -/
def Obligations.SecondSweepFoldsTheFirst : Prop :=
  ∀ (s : State) (sc0 : Scalars),
    let sc : Nat → Scalars := fun g => (secondSweep g (sc0, s)).1
    let u := (secondSweep 32 (sc0, s)).2
    sc 0 = sc0 ∧
    (∀ g : Nat, g < 32 →
      sc (g + 1) = mix8 (Vector.ofFn (fun t : Fin 8 => (sc g)[t] + s.readMemory (BitVec.ofNat 8 (8 * g + t))))) ∧
    (∀ (g : Nat) (t : Fin 8), g < 32 → u.readMemory (BitVec.ofNat 8 (8 * g + t)) = (sc (g + 1))[t]) ∧
    u = { s with memory := u.memory }

/-- Tier 2. R90: an accepted `INITF` or `INITS` gives the same generator from any two states: no register, array or flag that stood before it has any
influence. -/
def Obligations.InitDependsOnNoPriorState : Prop :=
  ∀ (s s' : State) (seed : List Word) (i : Instr), (i = .initf seed ∨ i = .inits seed) → seed.length ≤ 256 →
    ∃ t t', exec i s = .next t ∧ exec i s' = .next t' ∧ SameGenerator t t'

/-- Tier 2. R86: the state after `INITS` does not depend on its operands; and its first sweep writes the memory that a seeded first sweep writes when every
word of `results` is zero. Both rest on the reading that the single pass folds no seed: the open parameter of D6 at its default, the model's choice in
notes/assumptions/9. -/
def Obligations.InitsIgnoresItsOperands : Prop :=
  (∀ (s : State) (seed seed' : List Word), seed.length ≤ 256 → seed'.length ≤ 256 → exec (.inits seed) s = exec (.inits seed') s) ∧
  (∀ (s : State), (∀ k : Index, s.readResults k = 0#32) → (firstSweep false 32 (preMix, s)).2 = (firstSweep true 32 (preMix, s)).2)

/-- Tier 2. R87: two seeds that differ only by trailing zero words give the same state; with no words before the zeros this is the zero seed of any length. -/
def Obligations.TrailingZeroSeedWordsDoNotMatter : Prop :=
  ∀ (s : State) (seed : List Word) (n : Nat), seed.length + n ≤ 256 →
    exec (.initf (seed ++ List.replicate n 0#32)) s = exec (.initf seed) s

/-- Tier 2. R96, R128: with `valid` = 0 `NEXT` changes no state and answers `(ERR, 3)`; with `valid` = 1 and a legal cursor it answers `(OK, v)` for some
word `v`, and `valid` stays 1. A cursor of 257..511 is not a legal one: `NextStopsOnAnIllegalCursor` says what happens there (notes/assumptions/2). -/
def Obligations.NextFaultsExactlyWhenUninitialised : Prop :=
  (∀ s : State, s.valid = false → exec .next s = .next { s with responses := s.responses ++ [⟨.err, 3#32⟩] }) ∧
  (∀ s : State, s.valid = true → s.cursor.toNat ≤ 256 →
    ∃ t v, exec .next s = .next t ∧ t.responses = s.responses ++ [⟨.ok, v⟩] ∧ t.valid = true)

/-- Tier 2. R97, completion of `NEXT`: with `valid` = 1 and `cursor` in 1..256 the cursor goes down by one, `results[cursor]` at the new cursor is the answer,
and nothing else changes; with `cursor` = 0 one whole `REGEN` runs first, the answer is its `results[255]`, and the cursor ends at 255. -/
def Obligations.NextDrawsBackwardAndRefillsLazily : Prop :=
  (∀ (s : State) (n : Nat) (hn : n < 256), s.valid = true → s.cursor.toNat = n + 1 →
    exec .next s = .next { s with cursor := BitVec.ofNat 9 n, responses := s.responses ++ [⟨.ok, s.results[n]⟩] }) ∧
  (∀ s : State, s.valid = true → s.cursor = 0#9 →
    exec .next s = .next { regen s with cursor := 255#9, responses := s.responses ++ [⟨.ok, (regen s).results[255]⟩] })

/-- Tier 1. A cursor of 257..511 with `valid` = 1 is illegal and reached by no rule (R13, R16): the model stops by name there, its own choice
(notes/assumptions/2). -/
def Obligations.NextStopsOnAnIllegalCursor : Prop :=
  ∀ s : State, s.valid = true → 256 < s.cursor.toNat → exec .next s = .fault .cursorOutOfRange

/-- Tier 2. R22 (d): with `valid` = 1 the next `m <= cursor` draws return `results[cursor-1]`, `results[cursor-2]`, ... in that order, and change nothing but
the cursor. -/
def Obligations.UnreturnedValuesLeaveInDescendingOrder : Prop :=
  ∀ (s : State) (m : Nat), s.valid = true → s.cursor.toNat ≤ 256 → m ≤ s.cursor.toNat →
    nextTimes m s = .next { s with
      cursor := BitVec.ofNat 9 (s.cursor.toNat - m)
      responses := s.responses ++ (List.range m).map fun k => ⟨.ok, s.readResults (BitVec.ofNat 8 (s.cursor.toNat - 1 - k))⟩ }

/-- Tier 2. R98: from the state an initialisation leaves (`valid` = 1, `cursor` = 256, block 1 in `results`), `NEXT` number `k + 1` returns element
`255 - (k mod 256)` of block `k / 256 + 1`, the blocks being those of successive `REGEN`s, and after `m >= 1` draws exactly `(m - 1) / 256` `REGEN`s have
run and `cursor` = `255 - ((m - 1) mod 256)`. -/
def Obligations.DrawsRunBlockByBlockBackward : Prop :=
  ∀ (s : State) (m : Nat), s.valid = true → s.cursor = 256#9 → 1 ≤ m →
    nextTimes m s = .next { regenTimes ((m - 1) / 256) s with
      cursor := BitVec.ofNat 9 (255 - (m - 1) % 256)
      responses := s.responses ++ (List.range m).map fun k =>
        ⟨.ok, (regenTimes (k / 256) s).readResults (BitVec.ofNat 8 (255 - k % 256))⟩ }

/-- Tier 2. R99, R12: after an initialisation and `m >= 1` draws `cursor` = `255 - ((m - 1) mod 256)` and `c` = `(m - 1) / 256 + 1` modulo 2^32. -/
def Obligations.CursorAndCounterCountTheDraws : Prop :=
  ∀ (s : State) (seed : List Word) (i : Instr) (m : Nat), (i = .initf seed ∨ i = .inits seed) → seed.length ≤ 256 → 1 ≤ m →
    ∃ t u, exec i s = .next t ∧ nextTimes m t = .next u ∧ u.cursor.toNat = 255 - (m - 1) % 256 ∧
      u.c = BitVec.ofNat 32 ((m - 1) / 256 + 1)

/-- Tier 2. R92: for a seed and a pass count there is ONE sequence of responses, of any length `m`, that the initialisation and `m` draws produce from every
state: two generators with the same seed and pass count produce identical outputs thereafter. -/
def Obligations.SameSeedAndPassCountSameOutputs : Prop :=
  ∀ (seed : List Word) (i : Instr) (m : Nat), (i = .initf seed ∨ i = .inits seed) → seed.length ≤ 256 →
    ∃ outs : List Response, outs.length = m ∧ ∀ s : State,
      ∃ t u, exec i s = .next t ∧ nextTimes m t = .next u ∧ u.responses = s.responses ++ ⟨.ok, 0#32⟩ :: outs

/-- Tier 2. R148, R128: while `valid` = 0 no drawn value leaves the core: the only `OK` a step can add is the `(OK, 0)` of an initialisation, which
sets `valid`. -/
def Obligations.NoValueLeavesBeforeInitialisation : Prop :=
  ∀ (s t : State) (d : Word), s.valid = false → step s = .next t → t.responses = s.responses ++ [⟨.ok, d⟩] →
    d = 0#32 ∧ t.valid = true

/-- Tier 2. R27: what reset leaves in `memory`, `results`, `a`, `b`, `c` and `cursor` is never observed. Two cores with `valid` = 0 that hold anything at all in
them, given the same words and the same reset input, run on without a stop and produce the same responses after any number of steps. Steps are the model's:
a pending reset is one of them (notes/assumptions/3), and so is a wait for words (notes/assumptions/4). -/
def Obligations.ResetValuesAreNeverObserved : Prop :=
  ∀ (s t : State) (n : Nat), s.valid = false → t.valid = false → s.commands = t.commands → s.resetPending = t.resetPending →
    s.responses = t.responses →
    ∃ u v, Host.Core.run Sys2Proof.core n s = .next u ∧ Host.Core.run Sys2Proof.core n t = .next v ∧
      u.responses = v.responses ∧ u.commands = v.commands ∧ u.valid = v.valid

/-- Tier 1. R106: `c` goes up by one modulo 2^32, `b` grows by the new `c`, nothing else changes; from `c` = 0xffffffff, `c` becomes 0 and `b` stays. It happens
once per `REGEN`, before slot 0. -/
def Obligations.CounterStepAdvancesCThenB : Prop :=
  (∀ s : State, counterStep s = { s with c := s.c + 1#32, b := s.b + (s.c + 1#32) }) ∧
  (∀ s : State, s.c = 0xFFFFFFFF#32 → (counterStep s).c = 0#32 ∧ (counterStep s).b = s.b) ∧
  (∀ s : State, regen s = slotSteps 256 (counterStep s))

/-- Tier 2. R107 to R111: one slot step, its reads and its write in the order of the rule, the two lookups and the partner index given as arithmetic on
numbers, the shift chosen by `i mod 4`; the frame is all of memory, all of results and every other field. -/
def Obligations.SlotStepReadsAndWritesInOrder : Prop :=
  ∀ (s : State) (i : Index),
    let shifted : Word := if i.toNat % 4 = 0 then s.a <<< 13 else if i.toNat % 4 = 1 then s.a >>> 6
      else if i.toNat % 4 = 2 then s.a <<< 2 else s.a >>> 16
    let x := s.readMemory i
    let a := (s.a ^^^ shifted) + s.readMemory (BitVec.ofNat 8 ((i.toNat + 128) % 256))
    let y := s.readMemory (BitVec.ofNat 8 (x.toNat / 4 % 256)) + a + s.b
    let pool : Index → Word := fun k => if k = i then y else s.readMemory k
    let b := pool (BitVec.ofNat 8 (y.toNat / 1024 % 256)) + x
    let t := slotStep i s
    (∀ k : Index, t.readMemory k = pool k) ∧ (∀ k : Index, t.readResults k = if k = i then b else s.readResults k) ∧
      t.a = a ∧ t.b = b ∧ t = { s with memory := t.memory, results := t.results, a := t.a, b := t.b }

/-- Tier 1. R111, R114 (a) to (d): the aliasing corners of a slot step. The read at `lookup(x)` = `i` gives the old word, the read at `lookup2(y)` = `i` the new
one, a read at the partner the partner's word; from `a` = 0 the new `a` is the partner's word; and the partner of `i` is never `i`. -/
def Obligations.SlotStepAliasingCorners : Prop :=
  ∀ (s : State) (i : Index),
    let x := s.readMemory i
    let t := slotStep i s
    let y := t.readMemory i
    (lookup x = i → y = x + t.a + s.b) ∧ (lookup2 y = i → t.b = y + x) ∧
    (lookup x = partner i → y = s.readMemory (partner i) + t.a + s.b) ∧ (lookup2 y = partner i → t.b = s.readMemory (partner i) + x) ∧
    (s.a = 0#32 → t.a = s.readMemory (partner i)) ∧ partner i ≠ i

/-- Tier 2. R40: before slot `n` the words of slots `0..n-1` are as those slots stored them and the words from `n` on are as they were before the first slot;
so the partner read of slot `n` gives an old word in the first half and a word stored in this `REGEN` in the second. -/
def Obligations.SlotsSeeOldWordsAheadAndNewWordsBehind : Prop :=
  ∀ (s : State) (n : Nat), n < 256 →
    (∀ k : Index, (slotSteps n s).readMemory k =
      if k.toNat < n then (slotSteps (k.toNat + 1) s).readMemory k else s.readMemory k) ∧
    (n < 128 → (slotSteps n s).readMemory (partner (directIndex n)) = s.readMemory (partner (directIndex n))) ∧
    (128 ≤ n → (slotSteps n s).readMemory (partner (directIndex n)) = (slotSteps (n - 128 + 1) s).readMemory (directIndex (n - 128)))

/-- Tier 2. R112: after `REGEN` every word of the block and of the pool is the one its own slot wrote, `c` is one more, `b` = `results[255]`, `a` is what slot
255 left, and `cursor`, `valid`, the channels and the reset input are unchanged. -/
def Obligations.RegenWritesEveryWordOnce : Prop :=
  ∀ s : State,
    (∀ k : Index, (regen s).readResults k = (slotSteps (k.toNat + 1) (counterStep s)).b ∧
      (regen s).readMemory k = (slotSteps (k.toNat + 1) (counterStep s)).readMemory k) ∧
    (regen s).c = s.c + 1#32 ∧ (regen s).b = (regen s).readResults 255#8 ∧ (regen s).a = (slotSteps 256 (counterStep s)).a ∧
    (regen s).cursor = s.cursor ∧ (regen s).valid = s.valid ∧ (regen s).responses = s.responses ∧ SameInputs (regen s) s

/-- Tier 2. R105, R113: what `REGEN` makes of the pool, the block and the accumulators is a function of the pool and the accumulators alone; it reads
neither `results` nor `cursor` nor `valid`. -/
def Obligations.RegenReadsOnlyPoolAndAccumulators : Prop :=
  ∀ s t : State, s.memory = t.memory → s.a = t.a → s.b = t.b → s.c = t.c →
    (regen s).memory = (regen t).memory ∧ (regen s).results = (regen t).results ∧ (regen s).a = (regen t).a ∧
      (regen s).b = (regen t).b ∧ (regen s).c = (regen t).c

/-- Tier 1. R72: `MIX8` is the 24 updates of the rule, in order and in place. -/
def Obligations.MixIsTheTwentyFourUpdates : Prop :=
  ∀ s0 s1 s2 s3 s4 s5 s6 s7 : Word,
    mix8 #v[s0, s1, s2, s3, s4, s5, s6, s7] =
      (let s0 := s0 ^^^ (s1 <<< 11); let s3 := s3 + s0; let s1 := s1 + s2
       let s1 := s1 ^^^ (s2 >>> 2); let s4 := s4 + s1; let s2 := s2 + s3
       let s2 := s2 ^^^ (s3 <<< 8); let s5 := s5 + s2; let s3 := s3 + s4
       let s3 := s3 ^^^ (s4 >>> 16); let s6 := s6 + s3; let s4 := s4 + s5
       let s4 := s4 ^^^ (s5 <<< 10); let s7 := s7 + s4; let s5 := s5 + s6
       let s5 := s5 ^^^ (s6 >>> 4); let s0 := s0 + s5; let s6 := s6 + s7
       let s6 := s6 ^^^ (s7 <<< 8); let s1 := s1 + s6; let s7 := s7 + s0
       let s7 := s7 ^^^ (s0 >>> 9); let s2 := s2 + s7; let s0 := s0 + s1
       #v[s0, s1, s2, s3, s4, s5, s6, s7])

/-- Tier 1. R66 to R69: the four word operations as arithmetic on numbers, for every pair of words and every shift amount 1..31, with the corner values of
the rules. -/
def Obligations.WordOperationsWrapModulo32Bits : Prop :=
  (∀ x y z : Word, (add32 x y).toNat = (x.toNat + y.toNat) % 2 ^ 32 ∧ add32 x y = add32 y x ∧
    add32 (add32 x y) z = add32 x (add32 y z) ∧ add32 x 0#32 = x) ∧
  add32 0xFFFFFFFF#32 1#32 = 0#32 ∧ add32 0x80000000#32 0x80000000#32 = 0#32 ∧
  (∀ (x y : Word) (k : Nat), (xor32 x y).getLsbD k = (x.getLsbD k != y.getLsbD k) ∧ xor32 x x = 0#32 ∧ xor32 x 0#32 = x) ∧
  (∀ (x : Word) (k : Nat), 1 ≤ k → k ≤ 31 →
    (shl32 x k).toNat = x.toNat * 2 ^ k % 2 ^ 32 ∧ (shr32 x k).toNat = x.toNat / 2 ^ k) ∧
  shl32 0x80000000#32 1 = 0#32 ∧ shr32 0x80000000#32 16 = 0x00008000#32

/-- Tier 1. R30, R38: a read of an array gives the word of the most recent write to that index; a write changes no other index of that array, no word of the
other array, and no other field. -/
def Obligations.ArrayReadsGiveTheLatestWrite : Prop :=
  ∀ (s : State) (i k : Index) (v : Word),
    (s.writeMemory i v).readMemory k = (if k = i then v else s.readMemory k) ∧
    (s.writeMemory i v) = { s with memory := (s.writeMemory i v).memory } ∧
    (s.writeResults i v).readResults k = (if k = i then v else s.readResults k) ∧
    (s.writeResults i v) = { s with results := (s.writeResults i v).results }

/-- Tier 2. R83 to R86: the pool that step 2 leaves, word by word, as one chain of scalars. For `INITF` the first sweep folds `results` from the pre-mixed
scalars on, the second goes on from the scalars of the first sweep's last chunk and folds the words that the first sweep stored, and its scalars are the pool.
For `INITS` nothing is folded and the scalars of the one sweep are the pool. Neither writes anything but `memory`. That `INITS` folds no seed is
notes/assumptions/9; order, pairing and carry-over are general knowledge of the spec, notes/assumptions/10. -/
def Obligations.PoolIsOneChainOfScalars : Prop :=
  ∀ s : State,
    let first := sweepScalars preMix fun g t => s.readResults (BitVec.ofNat 8 (8 * g + t))
    let second := sweepScalars (first 32) fun g t => (first (g + 1))[t]
    let bare := sweepScalars preMix fun _ _ => 0#32
    (∀ (g : Nat) (t : Fin 8), g < 32 → (mixPool true s).readMemory (BitVec.ofNat 8 (8 * g + t)) = (second (g + 1))[t]) ∧
    (∀ (g : Nat) (t : Fin 8), g < 32 → (mixPool false s).readMemory (BitVec.ofNat 8 (8 * g + t)) = (bare (g + 1))[t]) ∧
    ∀ full : Bool, mixPool full s = { s with memory := (mixPool full s).memory }
end

