-- ==== Sys2Proof/Laws/Decode.lean ====
section
/-! SUPPORT. The header fields of an encoded command, and what taking a payload does (spec/30_encoding.md R48, R52). -/

namespace Sys2Proof

variable (op : BitVec 8) (z : BitVec 7) (pass : BitVec 1) (len : BitVec 16)

@[simp] theorem opField_headerWord : opField (headerWord op z pass len) = op := by
  ext k hk
  simp [opField, headerWord]
  grind

@[simp] theorem zField_headerWord : zField (headerWord op z pass len) = z := by
  ext k hk
  simp [zField, headerWord]
  grind

@[simp] theorem passFlag_headerWord : passFlag (headerWord op z pass len) = pass.getLsbD 0 := by
  simp [passFlag, headerWord]
  grind

@[simp] theorem lenField_headerWord : lenField (headerWord op z pass len) = len := by
  ext k hk
  simp [lenField, headerWord]
  grind

/-- A word is the header made of its own fields: no bit is in no field (R48). -/
theorem headerWord_fields (h : Word) : headerWord (opField h) (zField h) (h.extractLsb' 16 1) (lenField h) = h := by
  ext k hk
  simp [opField, zField, lenField, headerWord]
  grind

/-- A whole payload at the front of the stream is taken exactly (R52). -/
theorem takePayload_append (seed rest : List Word) : takePayload seed.length (seed ++ rest) = some (seed, rest) := by
  induction seed with
  | nil => rfl
  | cons w ws ih => simp [takePayload, ih]

/-- What a taken payload says of the stream: it is the payload and then the rest (R52). -/
theorem takePayload_eq_some {n : Nat} {ws seed rest : List Word} (h : takePayload n ws = some (seed, rest)) :
    ws = seed ++ rest ∧ seed.length = n := by
  induction n generalizing ws seed with
  | zero => simp [takePayload] at h; simp [← h.1, h.2]
  | succ n ih =>
    cases ws with
    | nil => simp [takePayload] at h
    | cons w ws =>
      cases hq : takePayload n ws with
      | none => simp [takePayload, hq] at h
      | some p =>
        obtain ⟨p, r⟩ := p
        simp [takePayload, hq] at h
        obtain ⟨rfl, rfl⟩ := h
        obtain ⟨rfl, hl⟩ := ih hq
        simp [hl]

/-- No payload is taken exactly when too few words have arrived (R52, R133). -/
theorem takePayload_eq_none {n : Nat} {ws : List Word} : takePayload n ws = none ↔ ws.length < n := by
  induction n generalizing ws with
  | zero => simp [takePayload]
  | succ n ih =>
    cases ws with
    | nil => simp [takePayload]
    | cons w ws =>
      cases hq : takePayload n ws with
      | none => simpa [takePayload, hq] using ih.mp hq
      | some p =>
        have : ¬ ws.length < n := fun h => by simp [ih.mpr h] at hq
        simpa [takePayload, hq] using this

end Sys2Proof
end

