-- ==== Sys2Proof/Laws/Loops.lean ====
section
/-! SUPPORT. What a counted loop does: its equations, and one induction principle for all of them. -/

namespace Sys2Proof.Machine

variable {σ : Type}

@[simp] theorem forUp_zero (body : Nat → σ → σ) (x : σ) : forUp body 0 x = x := by with_unfolding_all rfl

theorem forUp_succ (body : Nat → σ → σ) (n : Nat) (x : σ) : forUp body (n + 1) x = body n (forUp body n x) := by with_unfolding_all rfl

/-- What holds before the loop and is carried from `k` to `k + 1` by turn `k` holds after it. -/
theorem forUp_induct (P : Nat → σ → Prop) (body : Nat → σ → σ) (n : Nat) (x : σ) (h0 : P 0 x)
    (hs : ∀ k y, k < n → P k y → P (k + 1) (body k y)) : P n (forUp body n x) := by
  induction n with
  | zero => rwa [forUp_zero]
  | succ n ih =>
    rw [forUp_succ]
    exact hs n _ (Nat.lt_succ_self n) (ih fun k y hk => hs k y (Nat.lt_succ_of_lt hk))

/-- What no turn changes, the loop does not change. -/
theorem forUp_frame {τ : Type} (proj : σ → τ) (body : Nat → σ → σ) (h : ∀ k y, proj (body k y) = proj y) (n : Nat) (x : σ) :
    proj (forUp body n x) = proj x :=
  forUp_induct (fun _ y => proj y = proj x) body n x rfl fun k y _ hy => (h k y).trans hy

/-- Two loops whose turns keep a relation keep it: what turn `k` carries from one pair to the next holds of the two ends. -/
theorem forUp_rel {τ : Type} (R : Nat → σ → τ → Prop) (f : Nat → σ → σ) (g : Nat → τ → τ) (n : Nat) (x : σ) (y : τ) (h0 : R 0 x y)
    (hs : ∀ k u v, k < n → R k u v → R (k + 1) (f k u) (g k v)) : R n (forUp f n x) (forUp g n y) := by
  induction n with
  | zero => rwa [forUp_zero, forUp_zero]
  | succ n ih =>
    rw [forUp_succ, forUp_succ]
    exact hs n _ _ (Nat.lt_succ_self n) (ih fun k u v hk => hs k u v (Nat.lt_succ_of_lt hk))

end Sys2Proof.Machine
end

