-- ==== Sys2Proof/Laws/Mixer.lean ====
section
/-! SUPPORT. Reads and writes of the working scalars, and the loop of `MIX8` turned into its eight sub-steps (spec/40_arith_and_mixer.md R72). -/

namespace Sys2Proof.Machine

theorem scalar_of_lt (s : Scalars) {k : Nat} (h : k < 8) : scalar s k = s[k] := by
  simp only [scalar, Nat.mod_eq_of_lt h]

/-- Writing a scalar changes that one and no other. -/
theorem getElem_setScalar (s : Scalars) {k j : Nat} (v : Word) (hk : k < 8) (hj : j < 8) :
    (setScalar s k v)[j] = if j = k then v else s[j] := by
  simp only [setScalar, Nat.mod_eq_of_lt hk, Vector.getElem_set, eq_comm]

/-- `MIX8` is its eight sub-steps, `t` = 0 first (R72). -/
theorem mix8_eq (s : Scalars) :
    mix8 s = mixStep 7 (mixStep 6 (mixStep 5 (mixStep 4 (mixStep 3 (mixStep 2 (mixStep 1 (mixStep 0 s))))))) := by
  simp only [mix8, forUp_succ, forUp_zero]

end Sys2Proof.Machine
end

