-- ==== Sys2Proof/Laws/State.lean ====
section
/-! SUPPORT. Every field after every update of the state, one lemma each, so that no proof unfolds a record update. -/

namespace Sys2Proof.Machine

variable (s : State)

@[simp] theorem State.writeMemory_memory (i : Index) (v : Word) : (s.writeMemory i v).memory = s.memory.set i.toNat v i.isLt := rfl
@[simp] theorem State.writeMemory_results (i : Index) (v : Word) : (s.writeMemory i v).results = s.results := rfl
@[simp] theorem State.writeMemory_a (i : Index) (v : Word) : (s.writeMemory i v).a = s.a := rfl
@[simp] theorem State.writeMemory_b (i : Index) (v : Word) : (s.writeMemory i v).b = s.b := rfl
@[simp] theorem State.writeMemory_c (i : Index) (v : Word) : (s.writeMemory i v).c = s.c := rfl
@[simp] theorem State.writeMemory_cursor (i : Index) (v : Word) : (s.writeMemory i v).cursor = s.cursor := rfl
@[simp] theorem State.writeMemory_valid (i : Index) (v : Word) : (s.writeMemory i v).valid = s.valid := rfl
@[simp] theorem State.writeMemory_commands (i : Index) (v : Word) : (s.writeMemory i v).commands = s.commands := rfl
@[simp] theorem State.writeMemory_responses (i : Index) (v : Word) : (s.writeMemory i v).responses = s.responses := rfl
@[simp] theorem State.writeMemory_resetPending (i : Index) (v : Word) : (s.writeMemory i v).resetPending = s.resetPending := rfl
@[simp] theorem State.writeMemory_resetCount (i : Index) (v : Word) : (s.writeMemory i v).resetCount = s.resetCount := rfl

@[simp] theorem State.writeResults_memory (i : Index) (v : Word) : (s.writeResults i v).memory = s.memory := rfl
@[simp] theorem State.writeResults_results (i : Index) (v : Word) : (s.writeResults i v).results = s.results.set i.toNat v i.isLt := rfl
@[simp] theorem State.writeResults_a (i : Index) (v : Word) : (s.writeResults i v).a = s.a := rfl
@[simp] theorem State.writeResults_b (i : Index) (v : Word) : (s.writeResults i v).b = s.b := rfl
@[simp] theorem State.writeResults_c (i : Index) (v : Word) : (s.writeResults i v).c = s.c := rfl
@[simp] theorem State.writeResults_cursor (i : Index) (v : Word) : (s.writeResults i v).cursor = s.cursor := rfl
@[simp] theorem State.writeResults_valid (i : Index) (v : Word) : (s.writeResults i v).valid = s.valid := rfl
@[simp] theorem State.writeResults_commands (i : Index) (v : Word) : (s.writeResults i v).commands = s.commands := rfl
@[simp] theorem State.writeResults_responses (i : Index) (v : Word) : (s.writeResults i v).responses = s.responses := rfl
@[simp] theorem State.writeResults_resetPending (i : Index) (v : Word) : (s.writeResults i v).resetPending = s.resetPending := rfl
@[simp] theorem State.writeResults_resetCount (i : Index) (v : Word) : (s.writeResults i v).resetCount = s.resetCount := rfl

@[simp] theorem State.setA_memory (v : Word) : (s.setA v).memory = s.memory := rfl
@[simp] theorem State.setA_results (v : Word) : (s.setA v).results = s.results := rfl
@[simp] theorem State.setA_a (v : Word) : (s.setA v).a = v := rfl
@[simp] theorem State.setA_b (v : Word) : (s.setA v).b = s.b := rfl
@[simp] theorem State.setA_c (v : Word) : (s.setA v).c = s.c := rfl
@[simp] theorem State.setA_cursor (v : Word) : (s.setA v).cursor = s.cursor := rfl
@[simp] theorem State.setA_valid (v : Word) : (s.setA v).valid = s.valid := rfl
@[simp] theorem State.setA_commands (v : Word) : (s.setA v).commands = s.commands := rfl
@[simp] theorem State.setA_responses (v : Word) : (s.setA v).responses = s.responses := rfl
@[simp] theorem State.setA_resetPending (v : Word) : (s.setA v).resetPending = s.resetPending := rfl
@[simp] theorem State.setA_resetCount (v : Word) : (s.setA v).resetCount = s.resetCount := rfl

@[simp] theorem State.setB_memory (v : Word) : (s.setB v).memory = s.memory := rfl
@[simp] theorem State.setB_results (v : Word) : (s.setB v).results = s.results := rfl
@[simp] theorem State.setB_a (v : Word) : (s.setB v).a = s.a := rfl
@[simp] theorem State.setB_b (v : Word) : (s.setB v).b = v := rfl
@[simp] theorem State.setB_c (v : Word) : (s.setB v).c = s.c := rfl
@[simp] theorem State.setB_cursor (v : Word) : (s.setB v).cursor = s.cursor := rfl
@[simp] theorem State.setB_valid (v : Word) : (s.setB v).valid = s.valid := rfl
@[simp] theorem State.setB_commands (v : Word) : (s.setB v).commands = s.commands := rfl
@[simp] theorem State.setB_responses (v : Word) : (s.setB v).responses = s.responses := rfl
@[simp] theorem State.setB_resetPending (v : Word) : (s.setB v).resetPending = s.resetPending := rfl
@[simp] theorem State.setB_resetCount (v : Word) : (s.setB v).resetCount = s.resetCount := rfl

@[simp] theorem State.setC_memory (v : Word) : (s.setC v).memory = s.memory := rfl
@[simp] theorem State.setC_results (v : Word) : (s.setC v).results = s.results := rfl
@[simp] theorem State.setC_a (v : Word) : (s.setC v).a = s.a := rfl
@[simp] theorem State.setC_b (v : Word) : (s.setC v).b = s.b := rfl
@[simp] theorem State.setC_c (v : Word) : (s.setC v).c = v := rfl
@[simp] theorem State.setC_cursor (v : Word) : (s.setC v).cursor = s.cursor := rfl
@[simp] theorem State.setC_valid (v : Word) : (s.setC v).valid = s.valid := rfl
@[simp] theorem State.setC_commands (v : Word) : (s.setC v).commands = s.commands := rfl
@[simp] theorem State.setC_responses (v : Word) : (s.setC v).responses = s.responses := rfl
@[simp] theorem State.setC_resetPending (v : Word) : (s.setC v).resetPending = s.resetPending := rfl
@[simp] theorem State.setC_resetCount (v : Word) : (s.setC v).resetCount = s.resetCount := rfl

@[simp] theorem State.setCursor_memory (v : BitVec 9) : (s.setCursor v).memory = s.memory := rfl
@[simp] theorem State.setCursor_results (v : BitVec 9) : (s.setCursor v).results = s.results := rfl
@[simp] theorem State.setCursor_a (v : BitVec 9) : (s.setCursor v).a = s.a := rfl
@[simp] theorem State.setCursor_b (v : BitVec 9) : (s.setCursor v).b = s.b := rfl
@[simp] theorem State.setCursor_c (v : BitVec 9) : (s.setCursor v).c = s.c := rfl
@[simp] theorem State.setCursor_cursor (v : BitVec 9) : (s.setCursor v).cursor = v := rfl
@[simp] theorem State.setCursor_valid (v : BitVec 9) : (s.setCursor v).valid = s.valid := rfl
@[simp] theorem State.setCursor_commands (v : BitVec 9) : (s.setCursor v).commands = s.commands := rfl
@[simp] theorem State.setCursor_responses (v : BitVec 9) : (s.setCursor v).responses = s.responses := rfl
@[simp] theorem State.setCursor_resetPending (v : BitVec 9) : (s.setCursor v).resetPending = s.resetPending := rfl
@[simp] theorem State.setCursor_resetCount (v : BitVec 9) : (s.setCursor v).resetCount = s.resetCount := rfl

@[simp] theorem State.setValid_memory : (s.setValid).memory = s.memory := rfl
@[simp] theorem State.setValid_results : (s.setValid).results = s.results := rfl
@[simp] theorem State.setValid_a : (s.setValid).a = s.a := rfl
@[simp] theorem State.setValid_b : (s.setValid).b = s.b := rfl
@[simp] theorem State.setValid_c : (s.setValid).c = s.c := rfl
@[simp] theorem State.setValid_cursor : (s.setValid).cursor = s.cursor := rfl
@[simp] theorem State.setValid_valid : (s.setValid).valid = true := rfl
@[simp] theorem State.setValid_commands : (s.setValid).commands = s.commands := rfl
@[simp] theorem State.setValid_responses : (s.setValid).responses = s.responses := rfl
@[simp] theorem State.setValid_resetPending : (s.setValid).resetPending = s.resetPending := rfl
@[simp] theorem State.setValid_resetCount : (s.setValid).resetCount = s.resetCount := rfl

@[simp] theorem State.clearValid_memory : (s.clearValid).memory = s.memory := rfl
@[simp] theorem State.clearValid_results : (s.clearValid).results = s.results := rfl
@[simp] theorem State.clearValid_a : (s.clearValid).a = s.a := rfl
@[simp] theorem State.clearValid_b : (s.clearValid).b = s.b := rfl
@[simp] theorem State.clearValid_c : (s.clearValid).c = s.c := rfl
@[simp] theorem State.clearValid_cursor : (s.clearValid).cursor = s.cursor := rfl
@[simp] theorem State.clearValid_valid : (s.clearValid).valid = false := rfl
@[simp] theorem State.clearValid_commands : (s.clearValid).commands = s.commands := rfl
@[simp] theorem State.clearValid_responses : (s.clearValid).responses = s.responses := rfl
@[simp] theorem State.clearValid_resetPending : (s.clearValid).resetPending = s.resetPending := rfl
@[simp] theorem State.clearValid_resetCount : (s.clearValid).resetCount = s.resetCount := rfl

@[simp] theorem State.setCommands_memory (ws : List Word) : (s.setCommands ws).memory = s.memory := rfl
@[simp] theorem State.setCommands_results (ws : List Word) : (s.setCommands ws).results = s.results := rfl
@[simp] theorem State.setCommands_a (ws : List Word) : (s.setCommands ws).a = s.a := rfl
@[simp] theorem State.setCommands_b (ws : List Word) : (s.setCommands ws).b = s.b := rfl
@[simp] theorem State.setCommands_c (ws : List Word) : (s.setCommands ws).c = s.c := rfl
@[simp] theorem State.setCommands_cursor (ws : List Word) : (s.setCommands ws).cursor = s.cursor := rfl
@[simp] theorem State.setCommands_valid (ws : List Word) : (s.setCommands ws).valid = s.valid := rfl
@[simp] theorem State.setCommands_commands (ws : List Word) : (s.setCommands ws).commands = ws := rfl
@[simp] theorem State.setCommands_responses (ws : List Word) : (s.setCommands ws).responses = s.responses := rfl
@[simp] theorem State.setCommands_resetPending (ws : List Word) : (s.setCommands ws).resetPending = s.resetPending := rfl
@[simp] theorem State.setCommands_resetCount (ws : List Word) : (s.setCommands ws).resetCount = s.resetCount := rfl

@[simp] theorem State.respond_memory (r : Response) : (s.respond r).memory = s.memory := rfl
@[simp] theorem State.respond_results (r : Response) : (s.respond r).results = s.results := rfl
@[simp] theorem State.respond_a (r : Response) : (s.respond r).a = s.a := rfl
@[simp] theorem State.respond_b (r : Response) : (s.respond r).b = s.b := rfl
@[simp] theorem State.respond_c (r : Response) : (s.respond r).c = s.c := rfl
@[simp] theorem State.respond_cursor (r : Response) : (s.respond r).cursor = s.cursor := rfl
@[simp] theorem State.respond_valid (r : Response) : (s.respond r).valid = s.valid := rfl
@[simp] theorem State.respond_commands (r : Response) : (s.respond r).commands = s.commands := rfl
@[simp] theorem State.respond_responses (r : Response) : (s.respond r).responses = s.responses ++ [r] := rfl
@[simp] theorem State.respond_resetPending (r : Response) : (s.respond r).resetPending = s.resetPending := rfl
@[simp] theorem State.respond_resetCount (r : Response) : (s.respond r).resetCount = s.resetCount := rfl

@[simp] theorem State.send_memory (ws : List Word) : (s.send ws).memory = s.memory := rfl
@[simp] theorem State.send_results (ws : List Word) : (s.send ws).results = s.results := rfl
@[simp] theorem State.send_a (ws : List Word) : (s.send ws).a = s.a := rfl
@[simp] theorem State.send_b (ws : List Word) : (s.send ws).b = s.b := rfl
@[simp] theorem State.send_c (ws : List Word) : (s.send ws).c = s.c := rfl
@[simp] theorem State.send_cursor (ws : List Word) : (s.send ws).cursor = s.cursor := rfl
@[simp] theorem State.send_valid (ws : List Word) : (s.send ws).valid = s.valid := rfl
@[simp] theorem State.send_commands (ws : List Word) : (s.send ws).commands = s.commands ++ ws := rfl
@[simp] theorem State.send_responses (ws : List Word) : (s.send ws).responses = s.responses := rfl
@[simp] theorem State.send_resetPending (ws : List Word) : (s.send ws).resetPending = s.resetPending := rfl
@[simp] theorem State.send_resetCount (ws : List Word) : (s.send ws).resetCount = s.resetCount := rfl

@[simp] theorem State.assertReset_memory : (s.assertReset).memory = s.memory := rfl
@[simp] theorem State.assertReset_results : (s.assertReset).results = s.results := rfl
@[simp] theorem State.assertReset_a : (s.assertReset).a = s.a := rfl
@[simp] theorem State.assertReset_b : (s.assertReset).b = s.b := rfl
@[simp] theorem State.assertReset_c : (s.assertReset).c = s.c := rfl
@[simp] theorem State.assertReset_cursor : (s.assertReset).cursor = s.cursor := rfl
@[simp] theorem State.assertReset_valid : (s.assertReset).valid = s.valid := rfl
@[simp] theorem State.assertReset_commands : (s.assertReset).commands = s.commands := rfl
@[simp] theorem State.assertReset_responses : (s.assertReset).responses = s.responses := rfl
@[simp] theorem State.assertReset_resetPending : (s.assertReset).resetPending = true := rfl
@[simp] theorem State.assertReset_resetCount : (s.assertReset).resetCount = s.resetCount := rfl

@[simp] theorem State.placeNext_memory (ws : List Word) : (s.placeNext ws).memory = s.memory := rfl
@[simp] theorem State.placeNext_results (ws : List Word) : (s.placeNext ws).results = s.results := rfl
@[simp] theorem State.placeNext_a (ws : List Word) : (s.placeNext ws).a = s.a := rfl
@[simp] theorem State.placeNext_b (ws : List Word) : (s.placeNext ws).b = s.b := rfl
@[simp] theorem State.placeNext_c (ws : List Word) : (s.placeNext ws).c = s.c := rfl
@[simp] theorem State.placeNext_cursor (ws : List Word) : (s.placeNext ws).cursor = s.cursor := rfl
@[simp] theorem State.placeNext_valid (ws : List Word) : (s.placeNext ws).valid = s.valid := rfl
@[simp] theorem State.placeNext_commands (ws : List Word) : (s.placeNext ws).commands = ws ++ s.commands := rfl
@[simp] theorem State.placeNext_responses (ws : List Word) : (s.placeNext ws).responses = s.responses := rfl
@[simp] theorem State.placeNext_resetPending (ws : List Word) : (s.placeNext ws).resetPending = false := rfl
@[simp] theorem State.placeNext_resetCount (ws : List Word) : (s.placeNext ws).resetCount = s.resetCount := rfl

@[simp] theorem State.takeReset_memory : (s.takeReset).memory = Config.memoryAfterReset s.resetCount := rfl
@[simp] theorem State.takeReset_results : (s.takeReset).results = Config.resultsAfterReset s.resetCount := rfl
@[simp] theorem State.takeReset_a : (s.takeReset).a = Config.aAfterReset s.resetCount := rfl
@[simp] theorem State.takeReset_b : (s.takeReset).b = Config.bAfterReset s.resetCount := rfl
@[simp] theorem State.takeReset_c : (s.takeReset).c = Config.cAfterReset s.resetCount := rfl
@[simp] theorem State.takeReset_cursor : (s.takeReset).cursor = Config.cursorAfterReset s.resetCount := rfl
@[simp] theorem State.takeReset_valid : (s.takeReset).valid = false := rfl
@[simp] theorem State.takeReset_commands : (s.takeReset).commands = [] := rfl
@[simp] theorem State.takeReset_responses : (s.takeReset).responses = s.responses := rfl
@[simp] theorem State.takeReset_resetPending : (s.takeReset).resetPending = false := rfl
@[simp] theorem State.takeReset_resetCount : (s.takeReset).resetCount = s.resetCount + 1 := rfl

/-- A normal response is a response (R54). -/
@[simp] theorem State.respondOk_eq (v : Word) : s.respondOk v = s.respond ⟨.ok, v⟩ := rfl

/-- A fault is a response with the fault's code and nothing else (R132). -/
@[simp] theorem State.takeFault_eq (f : FaultCause) : s.takeFault f = s.respond ⟨.err, f.code⟩ := rfl

@[simp] theorem State.uninitialised_eq : s.uninitialised = !s.valid := rfl

end Sys2Proof.Machine
end

