-- ==== Sys2Proof/Laws/Memory.lean ====
section
/-! SUPPORT. The two arrays: a read after a write, disjointness, and their canonical form (spec/20_memory.md R30, R33, R38; spec/10_state.md R16). -/

namespace Sys2Proof.Machine

variable (s : State)

/-- The index a loop counter names is the counter, while it is below 256. -/
theorem directIndex_toNat {k : Nat} (h : k < 256) : (directIndex k).toNat = k := by
  simp [directIndex, BitVec.toNat_ofNat, Nat.mod_eq_of_lt h]

/-- Element `t` of chunk `g` is `8 * g + t` (R32). -/
theorem chunkIndex_toNat {g t : Nat} (hg : g < 32) (ht : t < 8) : (chunkIndex g t).toNat = 8 * g + t := by
  have h : 8 * g + t < 256 := by omega
  simp [chunkIndex, BitVec.toNat_ofNat, Nat.mod_eq_of_lt h]

theorem readMemory_writeMemory (i k : Index) (v : Word) :
    (s.writeMemory i v).readMemory k = if k = i then v else s.readMemory k := by
  simp only [State.readMemory, State.writeMemory_memory, Vector.getElem_set, ← BitVec.toNat_inj, eq_comm]

theorem readResults_writeResults (i k : Index) (v : Word) :
    (s.writeResults i v).readResults k = if k = i then v else s.readResults k := by
  simp only [State.readResults, State.writeResults_results, Vector.getElem_set, ← BitVec.toNat_inj, eq_comm]

/-- The two address spaces are disjoint (R30). -/
@[simp] theorem readMemory_writeResults (i k : Index) (v : Word) : (s.writeResults i v).readMemory k = s.readMemory k := rfl
@[simp] theorem readResults_writeMemory (i k : Index) (v : Word) : (s.writeMemory i v).readResults k = s.readResults k := rfl
@[simp] theorem readMemory_setA (k : Index) (v : Word) : (s.setA v).readMemory k = s.readMemory k := rfl
@[simp] theorem readMemory_setB (k : Index) (v : Word) : (s.setB v).readMemory k = s.readMemory k := rfl
@[simp] theorem readMemory_setC (k : Index) (v : Word) : (s.setC v).readMemory k = s.readMemory k := rfl
@[simp] theorem readResults_setA (k : Index) (v : Word) : (s.setA v).readResults k = s.readResults k := rfl
@[simp] theorem readResults_setB (k : Index) (v : Word) : (s.setB v).readResults k = s.readResults k := rfl
@[simp] theorem readResults_setC (k : Index) (v : Word) : (s.setC v).readResults k = s.readResults k := rfl
@[simp] theorem readMemory_setCommands (k : Index) (ws : List Word) : (s.setCommands ws).readMemory k = s.readMemory k := rfl
@[simp] theorem readResults_setCommands (k : Index) (ws : List Word) : (s.setCommands ws).readResults k = s.readResults k := rfl
@[simp] theorem readMemory_respond (k : Index) (r : Response) : (s.respond r).readMemory k = s.readMemory k := rfl
@[simp] theorem readResults_respond (k : Index) (r : Response) : (s.respond r).readResults k = s.readResults k := rfl
@[simp] theorem readMemory_setCursor (k : Index) (v : BitVec 9) : (s.setCursor v).readMemory k = s.readMemory k := rfl
@[simp] theorem readResults_setCursor (k : Index) (v : BitVec 9) : (s.setCursor v).readResults k = s.readResults k := rfl
@[simp] theorem readMemory_setValid (k : Index) : s.setValid.readMemory k = s.readMemory k := rfl
@[simp] theorem readResults_setValid (k : Index) : s.setValid.readResults k = s.readResults k := rfl

/-- Two arrays with the same word at every index are the same array. -/
theorem block_ext {m m' : Block} (h : ∀ k : Index, m[k.toNat]'k.isLt = m'[k.toNat]'k.isLt) : m = m' := by
  apply Vector.ext
  intro j hj
  have := h (BitVec.ofNat 8 j)
  simpa [BitVec.toNat_ofNat, Nat.mod_eq_of_lt hj] using this

/-- The canonical form holds of every state, by the types, so every operation keeps it (R16). -/
theorem memory_wf : Memory.wf s := by simp [Memory.wf]

/-- A read at a legal cursor gives the word of that index (R32, form (5)). -/
theorem resultAt_of_lt (results : Block) (cursor : BitVec 9) (h : cursor.toNat < 256) :
    resultAt results cursor = some (results[cursor.toNat]'h) := by
  simp [resultAt, h]

/-- Past the last index there is no word (R16). -/
theorem resultAt_of_ge (results : Block) (cursor : BitVec 9) (h : 256 ≤ cursor.toNat) : resultAt results cursor = none := by
  simp [resultAt, h]

end Sys2Proof.Machine
end

