-- ==== Sys2Proof/Laws/Regen.lean ====
section
/-! SUPPORT. What one slot step does to each field, and what `REGEN` leaves alone (spec/43_regenerate.md R105 to R107). -/

namespace Sys2Proof.Machine

variable (i : Index) (s : State)

/-- The new `a` of slot `i` (R107 (2)). -/
def slotA : Word := add32 (xor32 s.a (slotShift i s.a)) (s.readMemory (partner i))

/-- The word slot `i` stores to `memory[i]` (R107 (3)). -/
def slotY : Word := add32 (add32 (s.readMemory (lookup (s.readMemory i))) (slotA i s)) s.b

/-- The new `b` of slot `i`, read after the store (R107 (4)). -/
def slotB : Word := add32 ((s.writeMemory i (slotY i s)).readMemory (lookup2 (slotY i s))) (s.readMemory i)

/-- All that one slot step does: it writes `memory[i]`, `results[i]`, `a` and `b`, and nothing else (R107). -/
theorem slotStep_eq : slotStep i s =
    { s with memory := s.memory.set i.toNat (slotY i s) i.isLt, results := s.results.set i.toNat (slotB i s) i.isLt,
             a := slotA i s, b := slotB i s } := rfl

@[simp] theorem slotStep_a : (slotStep i s).a = slotA i s := rfl
@[simp] theorem slotStep_b : (slotStep i s).b = slotB i s := rfl
@[simp] theorem slotStep_c : (slotStep i s).c = s.c := rfl
@[simp] theorem slotStep_cursor : (slotStep i s).cursor = s.cursor := rfl
@[simp] theorem slotStep_valid : (slotStep i s).valid = s.valid := rfl
@[simp] theorem slotStep_commands : (slotStep i s).commands = s.commands := rfl
@[simp] theorem slotStep_responses : (slotStep i s).responses = s.responses := rfl
@[simp] theorem slotStep_resetPending : (slotStep i s).resetPending = s.resetPending := rfl
@[simp] theorem slotStep_resetCount : (slotStep i s).resetCount = s.resetCount := rfl

theorem slotStep_readMemory (k : Index) : (slotStep i s).readMemory k = if k = i then slotY i s else s.readMemory k :=
  readMemory_writeMemory s i k (slotY i s)

theorem slotStep_readResults (k : Index) : (slotStep i s).readResults k = if k = i then slotB i s else s.readResults k :=
  readResults_writeResults s i k (slotB i s)

theorem slotSteps_succ (n : Nat) : slotSteps (n + 1) s = slotStep (directIndex n) (slotSteps n s) := by
  rw [slotSteps, forUp_succ, slotSteps]

@[simp] theorem slotSteps_zero : slotSteps 0 s = s := by rw [slotSteps, forUp_zero]

/-- What no slot step changes, no number of them changes. -/
theorem slotSteps_frame {τ : Type} (proj : State → τ) (h : ∀ i s, proj (slotStep i s) = proj s) (n : Nat) :
    proj (slotSteps n s) = proj s :=
  forUp_frame proj (fun k => slotStep (directIndex k)) (fun _ _ => h _ _) n s

/-- What neither the counter step nor a slot step changes, `REGEN` does not change (R105). -/
theorem regen_frame {τ : Type} (proj : State → τ) (h : ∀ i s, proj (slotStep i s) = proj s) (h0 : ∀ s, proj (counterStep s) = proj s) :
    proj (regen s) = proj s := by
  rw [regen, slotSteps_frame _ proj h, h0]

/-- The channels, the reset input and the counter of the model are none of `REGEN`'s business (R105). -/
@[simp] theorem regen_commands : (regen s).commands = s.commands := regen_frame s State.commands (fun _ _ => rfl) (fun _ => rfl)
@[simp] theorem regen_responses : (regen s).responses = s.responses := regen_frame s State.responses (fun _ _ => rfl) (fun _ => rfl)
@[simp] theorem regen_resetPending : (regen s).resetPending = s.resetPending :=
  regen_frame s State.resetPending (fun _ _ => rfl) (fun _ => rfl)
@[simp] theorem regen_resetCount : (regen s).resetCount = s.resetCount := regen_frame s State.resetCount (fun _ _ => rfl) (fun _ => rfl)

end Sys2Proof.Machine
end

