-- ==== Sys2Proof/Laws/Init.lean ====
section
/-! SUPPORT. What the steps of an initialisation leave alone, and the one case split of the command (spec/41_init.md R80, R81, R84, R85, R91). -/

namespace Sys2Proof.Machine

variable (s : State)

/-- A field that no write of `results` touches comes out of the seed copy as it went in (R81). -/
theorem seedCopy_frame {τ : Type} (proj : State → τ) (h : ∀ s i v, proj (State.writeResults s i v) = proj s) (seed : List Word) :
    proj (seedCopy seed s) = proj s :=
  forUp_frame proj _ (fun _ _ => h _ _ _) _ _

/-- A field that no write of `memory` touches comes out of a chunk's store as it went in. -/
theorem storeChunk_frame {τ : Type} (proj : State → τ) (h : ∀ s i v, proj (State.writeMemory s i v) = proj s) (g : Nat) (sc : Scalars) :
    proj (storeChunk g sc s) = proj s :=
  forUp_frame proj _ (fun _ _ => h _ _ _) _ _

/-- Folding adds word `t` into scalar `t`, for all eight (R84, R85). -/
theorem foldIn_eq (word : Nat → Word) (sc : Scalars) : foldIn word sc = Vector.ofFn fun t : Fin 8 => sc[t] + word t := by
  have key : ∀ n j (hj : j < 8), n ≤ 8 →
      (forUp (fun t sc => setScalar sc t (add32 (scalar sc t) (word t))) n sc)[j] = if j < n then sc[j] + word j else sc[j] := by
    intro n j hj
    induction n with
    | zero => intro _; simp
    | succ n ih =>
      intro hn
      rw [forUp_succ, getElem_setScalar _ _ (by omega) hj]
      by_cases e : j = n
      · subst e
        rw [if_pos rfl, scalar_of_lt _ hj, ih (by omega), if_neg (by omega), if_pos (by omega), add32]
      · rw [if_neg e, ih (by omega)]
        by_cases h : j < n
        · rw [if_pos h, if_pos (by omega)]
        · rw [if_neg h, if_neg (by omega)]
  apply Vector.ext
  intro j hj
  rw [Vector.getElem_ofFn]
  exact (key 8 j hj (Nat.le_refl 8)).trans (if_pos hj)

/-- A chunk's store puts scalar `t` at `memory[8g+t]` and leaves every other word (R84, R85). -/
theorem storeChunk_readMemory {g : Nat} (hg : g < 32) (sc : Scalars) (k : Index) :
    (storeChunk g sc s).readMemory k =
      if h : 8 * g ≤ k.toNat ∧ k.toNat < 8 * g + 8 then sc[k.toNat - 8 * g] else s.readMemory k := by
  have key : ∀ n ≤ 8, (forUp (fun t (s : State) => s.writeMemory (chunkIndex g t) (scalar sc t)) n s).readMemory k =
      if 8 * g ≤ k.toNat ∧ k.toNat < 8 * g + n then scalar sc (k.toNat - 8 * g) else s.readMemory k := by
    intro n hn
    induction n with
    | zero => rw [if_neg (by omega), forUp_zero]
    | succ n ih =>
      rw [forUp_succ, readMemory_writeMemory, ih (by omega)]
      by_cases e : k = chunkIndex g n
      · have ek : k.toNat = 8 * g + n := by rw [e, chunkIndex_toNat hg (by omega)]
        rw [if_pos e, if_pos (by omega), ek, Nat.add_sub_cancel_left]
      · have ek : k.toNat ≠ 8 * g + n := fun e' => e (BitVec.eq_of_toNat_eq (by rw [chunkIndex_toNat hg (by omega), e']))
        rw [if_neg e]
        by_cases h : 8 * g ≤ k.toNat ∧ k.toNat < 8 * g + n
        · rw [if_pos h, if_pos (by omega)]
        · rw [if_neg h, if_neg (by omega)]
  rw [storeChunk, key 8 (Nat.le_refl 8)]
  by_cases h : 8 * g ≤ k.toNat ∧ k.toNat < 8 * g + 8
  · rw [dif_pos h, if_pos h]
    simp only [scalar, Nat.mod_eq_of_lt (show k.toNat - 8 * g < 8 by omega)]
  · rw [dif_neg h, if_neg h]

theorem firstSweep_succ (full : Bool) (n : Nat) (w : Scalars × State) :
    firstSweep full (n + 1) w = firstSweepChunk full n (firstSweep full n w) := by
  rw [firstSweep, forUp_succ, firstSweep]

@[simp] theorem firstSweep_zero (full : Bool) (w : Scalars × State) : firstSweep full 0 w = w := by rw [firstSweep, forUp_zero]

theorem secondSweep_succ (n : Nat) (w : Scalars × State) : secondSweep (n + 1) w = secondSweepChunk n (secondSweep n w) := by
  rw [secondSweep, forUp_succ, secondSweep]

@[simp] theorem secondSweep_zero (w : Scalars × State) : secondSweep 0 w = w := by rw [secondSweep, forUp_zero]

@[simp] theorem sweepScalars_zero (start : Scalars) (word : Nat → Fin 8 → Word) : sweepScalars start word 0 = start := rfl

theorem sweepScalars_succ (start : Scalars) (word : Nat → Fin 8 → Word) (g : Nat) :
    sweepScalars start word (g + 1) = mix8 (Vector.ofFn fun t : Fin 8 => (sweepScalars start word g)[t] + word g t) := rfl

/-- A field that no write of `memory` touches comes out of any number of chunks of the first sweep as it went in. -/
theorem firstSweep_frame {τ : Type} (proj : State → τ) (h : ∀ s i v, proj (State.writeMemory s i v) = proj s) (full : Bool) (n : Nat)
    (w : Scalars × State) : proj (firstSweep full n w).2 = proj w.2 :=
  forUp_frame (fun w : Scalars × State => proj w.2) _ (fun g w => storeChunk_frame w.2 proj h g _) n w

/-- The same of the second sweep. -/
theorem secondSweep_frame {τ : Type} (proj : State → τ) (h : ∀ s i v, proj (State.writeMemory s i v) = proj s) (n : Nat)
    (w : Scalars × State) : proj (secondSweep n w).2 = proj w.2 :=
  forUp_frame (fun w : Scalars × State => proj w.2) _ (fun g w => storeChunk_frame w.2 proj h g _) n w

/-- The two sweeps write `memory` and nothing else of the state (R84, R85). -/
theorem mixPool_frame {τ : Type} (proj : State → τ) (h : ∀ s i v, proj (State.writeMemory s i v) = proj s) (full : Bool) :
    proj (mixPool full s) = proj s := by
  cases full with
  | true => exact (secondSweep_frame proj h _ _).trans (firstSweep_frame proj h true _ _)
  | false => exact firstSweep_frame proj h false _ _

/-- The generator an initialisation leaves is one `REGEN` of the mixed pool with the cursor and the flag set (R88, R89). Rewrite with it: do not
let two initialisations be compared by computation. -/
theorem initGenerator_eq (full : Bool) (seed : List Word) :
    initGenerator full seed s = ((regen (mixPool full (zeroAccumulators (seedCopy seed s)))).setCursor 256#9).setValid := rfl

@[simp] theorem initGenerator_valid (full : Bool) (seed : List Word) : (initGenerator full seed s).valid = true := by
  rw [initGenerator_eq, State.setValid_valid]

@[simp] theorem initGenerator_cursor (full : Bool) (seed : List Word) : (initGenerator full seed s).cursor = 256#9 := by
  rw [initGenerator_eq, State.setValid_cursor, State.setCursor_cursor]

/-- What none of the steps of an initialisation changes comes out of it as it went in. -/
theorem initGenerator_frame {τ : Type} (proj : State → τ) (hr : ∀ s i v, proj (State.writeResults s i v) = proj s)
    (hm : ∀ s i v, proj (State.writeMemory s i v) = proj s) (hz : ∀ s, proj (zeroAccumulators s) = proj s)
    (hg : ∀ s, proj (regen s) = proj s) (he : ∀ s : State, proj (s.setCursor 256#9).setValid = proj s) (full : Bool) (seed : List Word) :
    proj (initGenerator full seed s) = proj s := by
  unfold initGenerator
  rw [he, hg, mixPool_frame _ proj hm, hz, seedCopy_frame _ proj hr]

/-- The channels, the reset input and the counter of the model are untouched until the response. -/
@[simp] theorem initGenerator_commands (full : Bool) (seed : List Word) : (initGenerator full seed s).commands = s.commands :=
  initGenerator_frame s State.commands (fun _ _ _ => rfl) (fun _ _ _ => rfl) (fun _ => rfl) regen_commands (fun _ => rfl) full seed

@[simp] theorem initGenerator_responses (full : Bool) (seed : List Word) : (initGenerator full seed s).responses = s.responses :=
  initGenerator_frame s State.responses (fun _ _ _ => rfl) (fun _ _ _ => rfl) (fun _ => rfl) regen_responses (fun _ => rfl) full seed

@[simp] theorem initGenerator_resetPending (full : Bool) (seed : List Word) : (initGenerator full seed s).resetPending = s.resetPending :=
  initGenerator_frame s State.resetPending (fun _ _ _ => rfl) (fun _ _ _ => rfl) (fun _ => rfl) regen_resetPending (fun _ => rfl) full seed

@[simp] theorem initGenerator_resetCount (full : Bool) (seed : List Word) : (initGenerator full seed s).resetCount = s.resetCount :=
  initGenerator_frame s State.resetCount (fun _ _ _ => rfl) (fun _ _ _ => rfl) (fun _ => rfl) regen_resetCount (fun _ => rfl) full seed

/-- All that an `INIT` command can do: fault on an over-long seed, or make a generator and say so (R80, R91). -/
theorem initCommand_cases (full : Bool) (seed : List Word) :
    (256 < seed.length ∧ initCommand full seed s = s.takeFault .seedTooLong) ∨
    (seed.length ≤ 256 ∧ initCommand full seed s = (initGenerator full seed s).respondOk 0#32) := by
  by_cases h : 256 < seed.length
  · exact .inl ⟨h, if_pos h⟩
  · exact .inr ⟨Nat.le_of_not_lt h, if_neg h⟩

end Sys2Proof.Machine
end

