-- ==== Sys2Proof/Laws/Next.lean ====
section
/-! SUPPORT. All that `NEXT` can do (spec/42_next.md R95 to R97). -/

namespace Sys2Proof.Machine

variable (s : State)

theorem refill_of_zero (h : s.cursor = 0#9) : refill s = (regen s).setCursor 256#9 := if_pos h

theorem refill_of_ne (h : s.cursor ≠ 0#9) : refill s = s := if_neg h

/-- `NEXT` faults on an uninitialised core, or draws from the refilled block, or stops on a cursor no rule produces. -/
theorem execNext_cases :
    (s.valid = false ∧ execNext s = .next (s.takeFault .notInitialized)) ∨
    (∃ h : ((refill s).cursor - 1#9).toNat < 256, s.valid = true ∧ execNext s =
      .next (((refill s).setCursor ((refill s).cursor - 1#9)).respondOk ((refill s).results[((refill s).cursor - 1#9).toNat]'h))) ∨
    (256 ≤ ((refill s).cursor - 1#9).toNat ∧ s.valid = true ∧ execNext s = .fault .cursorOutOfRange) := by
  cases hv : s.valid with
  | false => exact .inl ⟨rfl, by simp [execNext, hv]⟩
  | true =>
    by_cases h : ((refill s).cursor - 1#9).toNat < 256
    · exact .inr (.inl ⟨h, rfl, by simp [execNext, hv, drawValue, resultAt_of_lt _ _ h]⟩)
    · exact .inr (.inr ⟨Nat.le_of_not_lt h, rfl, by simp [execNext, hv, drawValue, resultAt_of_ge _ _ (Nat.le_of_not_lt h)]⟩)

end Sys2Proof.Machine
end

