-- ==== Sys2Proof/Laws/PerInstr.lean ====
section
/-! SUPPORT. The per-instruction family `HeaderMatchesTable`: the header a command encodes to has the fixed bits that the opcode table gives its row
(spec/30_encoding.md R49, R50, R51). -/

namespace Sys2Proof.Laws.HeaderMatchesTable

/-- The mask of the table's row (summary after R51). -/
def mask : Instr → Word
  | .initf _ => 0xFFFF0000#32
  | .inits _ => 0xFFFF0000#32
  | .next => 0xFFFFFFFF#32

/-- The match value of the table's row (summary after R51). -/
def pattern : Instr → Word
  | .initf _ => 0x01010000#32
  | .inits _ => 0x01000000#32
  | .next => 0x02000000#32

/-- The header under the row's mask is the row's match value, and its low 16 bits are the payload's length (R48). -/
def Statement (i : Instr) : Prop :=
  i.WellFormed → encodeHeader i &&& mask i = pattern i ∧ (encodeHeader i).toNat % 65536 = i.payload.length

/-- The fixed high half of an `INIT` header and its free low half, for either pass flag. -/
theorem init_header (p : BitVec 1) (n : Nat) (h : n < 65536) :
    headerWord 0x01#8 0#7 p (BitVec.ofNat 16 n) &&& 0xFFFF0000#32 = headerWord 0x01#8 0#7 p 0#16 ∧
      (headerWord 0x01#8 0#7 p (BitVec.ofNat 16 n)).toNat % 65536 = n := by
  constructor
  · ext k hk
    have hm : (0xFFFF0000#32)[k] = decide (16 ≤ k) := by
      revert k; decide
    by_cases hk' : k < 16 <;> simp [headerWord, hm] <;> grind
  · have := congrArg BitVec.toNat (lenField_headerWord 0x01#8 0#7 p (BitVec.ofNat 16 n))
    simpa [lenField, BitVec.extractLsb'_toNat, Nat.mod_eq_of_lt h] using this

theorem initf (seed : List Word) : Statement (.initf seed) := fun h => init_header 1#1 seed.length h

theorem inits (seed : List Word) : Statement (.inits seed) := fun h => init_header 0#1 seed.length h

theorem next : Statement .next := fun _ => by decide

end Sys2Proof.Laws.HeaderMatchesTable
end

