-- ==== Sys2Proof/Laws/Step.lean ====
section
/-! SUPPORT. All that a step can do (spec/30_encoding.md R57, spec/70_reset_and_hazards.md R145). -/

namespace Sys2Proof.Machine

variable (s : State)

/-- A pending reset is taken first. -/
theorem step_reset (h : s.resetPending = true) : step s = .next s.takeReset := by simp [step, h]

/-- A whole command at the front of the channel is taken and executed. -/
theorem step_command {i : Instr} {rest : List Word} (h : s.resetPending = false) (hd : decode s.commands = .command i rest) :
    step s = exec i (s.setCommands rest) := by simp [step, h, hd]

/-- An illegal header is taken and faults. -/
theorem step_illegal {w : Word} {rest : List Word} (h : s.resetPending = false) (hd : decode s.commands = .illegal w rest) :
    step s = .next ((s.setCommands rest).takeFault .illegalCommand) := by simp [step, h, hd, takeIllegalHeader]

/-- With no whole command the core waits. -/
theorem step_waiting (h : s.resetPending = false) (hd : decode s.commands = .waiting) : step s = .next s := by
  simp [step, h, hd, awaitWords]

/-- The four things a step can be. -/
theorem step_cases :
    (s.resetPending = true ∧ step s = .next s.takeReset) ∨
    (s.resetPending = false ∧ ((∃ i rest, decode s.commands = .command i rest ∧ step s = exec i (s.setCommands rest)) ∨
      (∃ w rest, decode s.commands = .illegal w rest ∧ step s = .next ((s.setCommands rest).takeFault .illegalCommand)) ∨
      (decode s.commands = .waiting ∧ step s = .next s))) := by
  cases h : s.resetPending with
  | true => exact .inl ⟨rfl, step_reset s h⟩
  | false =>
    refine .inr ⟨rfl, ?_⟩
    cases hd : decode s.commands with
    | command i rest => exact .inl ⟨i, rest, rfl, step_command s h hd⟩
    | illegal w rest => exact .inr (.inl ⟨w, rest, rfl, step_illegal s h hd⟩)
    | waiting => exact .inr (.inr ⟨rfl, step_waiting s h hd⟩)

end Sys2Proof.Machine
end

