-- ==== Sys2Proof/Tests/Slice0.lean ====
section
/-! SUPPORT. The model's own tests: values from the spec's tables and worked examples (each names its source), the well-formedness smoke, and for every
statement with hypotheses a witness that meets them. -/

namespace Sys2Proof.Tests

open Sys2Proof Sys2Proof.Machine

/-- A small initialised state: everything zero but `valid` = 1 and the cursor. -/
def ready (n : BitVec 9) : State := { State.reset with valid := true, cursor := n }

/-- A state whose pool, and `a`, `b`, `c`, are all ones (R117). -/
def ones : State :=
  { State.reset with
    memory := Vector.replicate 256 0xFFFFFFFF#32, a := 0xFFFFFFFF#32, b := 0xFFFFFFFF#32, c := 0xFFFFFFFF#32 }

/-- The responses after a step; nothing where it stops. -/
def answers (o : Host.Outcome State Fault Refusal) : List Response :=
  match o with
  | .next t => t.responses
  | .fault _ => []
  | .refused _ => []

/-- The words left on the command channel after a step. -/
def left (o : Host.Outcome State Fault Refusal) : List Word :=
  match o with
  | .next t => t.commands
  | .fault _ => []
  | .refused _ => []

/-- What holds of a number holds of the length of that many equal words. -/
theorem replicate_length {P : Nat → Prop} {n : Nat} {w : Word} (h : P n) : P (List.replicate n w).length := by
  rwa [List.length_replicate]

/-! Well-formedness. -/

theorem test_wellFormed_refuses_initf_of_65536_words : ¬ (Instr.initf (List.replicate 65536 0#32)).WellFormed := by
  rw [Instr.WellFormed, Instr.payload, List.length_replicate]
  exact Nat.lt_irrefl 65536

theorem test_wellFormed_refuses_inits_of_65536_words : ¬ (Instr.inits (List.replicate 65536 0#32)).WellFormed := by
  rw [Instr.WellFormed, Instr.payload, List.length_replicate]
  exact Nat.lt_irrefl 65536

theorem test_wellFormed_admits_65535_words : (Instr.initf (List.replicate 65535 0#32)).WellFormed := by
  rw [Instr.WellFormed, Instr.payload, List.length_replicate]
  exact Nat.lt_succ_self 65535

theorem test_wellFormed_admits_next : Instr.next.WellFormed := by decide

/-! Decoding: words written out bit by bit from 30_encoding.md R48 to R51, and the rows V-ENC of 95_test_vectors.md. -/

/-- R49: `op` 0x01, `z` 0, `P` 1, `len` 2, then two payload words. -/
theorem test_decode_initf_bits :
    decode [0b00000001000000010000000000000010#32, 0x02000000#32, 0x01010004#32, 0x02000000#32] =
      .command (.initf [0x02000000#32, 0x01010004#32]) [0x02000000#32] := by decide

/-- R50: `op` 0x01, `z` 0, `P` 0, `len` 3 (V-ENC-7). -/
theorem test_decode_inits_bits :
    decode [0b00000001000000000000000000000011#32, 9#32, 9#32, 9#32] = .command (.inits [9#32, 9#32, 9#32]) [] := by decide

/-- R51 (V-ENC-8). -/
theorem test_decode_next_bits : decode [0b00000010000000000000000000000000#32] = .command .next [] := by decide

/-- V-ENC-1, 3, 4, 5, 6: the pass flag and the length a header carries. -/
theorem test_classify_init_headers :
    classify 0x01010000#32 = .init true 0 ∧ classify 0x01010100#32 = .init true 256 ∧ classify 0x01010101#32 = .init true 257 ∧
      classify 0x0101ffff#32 = .init true 65535 ∧ classify 0x01000000#32 = .init false 0 := by decide

/-- V-ENC-9 to V-ENC-16: the illegal rows. -/
theorem test_classify_illegal_headers :
    [0x00000000#32, 0x02000001#32, 0x02010000#32, 0x01020000#32, 0x01800004#32, 0x03000000#32, 0xffffffff#32, 0x81010000#32].map classify =
      List.replicate 8 .illegal := by decide

/-- R58: `INITF 1, 2, 3, 4` is these five words; `INITS` and `NEXT` are these (section 8 of 95_test_vectors.md). -/
theorem test_encode_words :
    encode (.initf [1#32, 2#32, 3#32, 4#32]) = [0x01010004#32, 1#32, 2#32, 3#32, 4#32] ∧ encode (.inits []) = [0x01000000#32] ∧
      encode .next = [0x02000000#32] := by decide

/-- The opcode table's words, payload words of zeros, and a refusal. -/
theorem test_decodeTableWord :
    decodeTableWord 32 0x01010000 = some (.initf []) ∧ decodeTableWord 32 0x01000002 = some (.inits [0#32, 0#32]) ∧
      decodeTableWord 32 0x02000000 = some .next ∧ decodeTableWord 32 0x02000001 = none := by decide

/-! Arithmetic, indices and the mixer: sections 3 and 4 of 95_test_vectors.md. -/

/-- V-AR-3, V-AR-5 to V-AR-8, V-AR-10 to V-AR-12. -/
theorem test_word_operations :
    add32 0x9e3779b9#32 0x9e3779b9#32 = 0x3c6ef372#32 ∧ add32 (add32 0xffffffff#32 0x00001ffe#32) 0xffffffff#32 = 0x00001ffc#32 ∧
      xor32 0x9e3779b9#32 0xbbcdc800#32 = 0x25fab1b9#32 ∧ shl32 0x9e3779b9#32 11 = 0xbbcdc800#32 ∧
      shl32 0xffffffff#32 13 = 0xffffe000#32 ∧ shr32 0x80000000#32 16 = 0x00008000#32 ∧ shr32 0xffffffff#32 6 = 0x03ffffff#32 ∧
      shr32 0x9e3779b9#32 2 = 0x278dde6e#32 := by decide

/-- V-AR-14 to V-AR-21. -/
theorem test_lookups :
    lookup 0xdb792195#32 = 101#8 ∧ lookup 0xffffffff#32 = 255#8 ∧ lookup 0x00000003#32 = 0#8 ∧ lookup 0x00000400#32 = 0#8 ∧
      lookup2 0x56047a81#32 = 30#8 ∧ lookup2 0x000003ff#32 = 0#8 ∧ lookup2 0x0003fc00#32 = 255#8 ∧ lookup2 0xfffc0000#32 = 0#8 := by
  decide

/-- V-MIX-3: wraparound in the mixer. -/
theorem test_mix8_all_ones :
    mix8 (Vector.replicate 8 0xffffffff#32) =
      #v[0x0bf2007e#32, 0x3fe92af9#32, 0xab96d5e7#32, 0xc000c7fe#32, 0xdfe009fc#32, 0xcc08cd86#32, 0x7fe92af8#32, 0xab8edbea#32] := by
  decide +kernel

/-- V-MIX-5: eight different words, so that no two scalars may be exchanged. -/
theorem test_mix8_counting :
    mix8 #v[0#32, 1#32, 2#32, 3#32, 4#32, 5#32, 6#32, 7#32] =
      #v[0x040f4ec6#32, 0x0407332b#32, 0x203445c3#32, 0x0000080a#32, 0x20242311#32, 0x0008139b#32, 0x04073328#32, 0x202c3abe#32] := by
  decide +kernel

/-- R74, R83: the pre-mixed scalars. -/
theorem test_preMix :
    preMix =
      #v[0x1367df5a#32, 0x95d90059#32, 0xc3163e4b#32, 0x0f421ad8#32, 0xd92a4a78#32, 0xa51a3c49#32, 0xc4efea1b#32, 0x30609119#32] := by
  decide +kernel

/-! Steps of an initialisation and of `REGEN` on small states. -/

/-- V-INIT-1, sweep 1: `memory[0..7]` after the first chunk of the zero seed. -/
theorem test_first_chunk_of_zero_seed :
    (firstSweep true 1 (preMix, State.reset)).1 =
      #v[0x06cca0e5#32, 0x7bcc7892#32, 0x1ab2de71#32, 0x2bfc6cb4#32, 0x55056274#32, 0xaf9b10f9#32, 0x13a1c75c#32, 0x10239bf4#32] ∧
    (firstSweep true 1 (preMix, State.reset)).2.readMemory 1#8 = 0x7bcc7892#32 := by decide +kernel

/-- V-INIT-2, sweep 1: `memory[8..15]` for the seed (1, 2, 3, 4), whose first chunk folds the seed and whose second carries the scalars on. -/
theorem test_second_chunk_of_seed_1234 :
    (firstSweep true 2 (preMix, { State.reset with
      results := (((Vector.replicate 256 0#32).set 0 1#32).set 1 2#32 |>.set 2 3#32).set 3 4#32 })).1 =
      #v[0xd559c07b#32, 0x3a9f9438#32, 0x0b1b161e#32, 0x23697b71#32, 0x7168575a#32, 0x927c7672#32, 0x62b1c9e8#32, 0xdf57375f#32] := by
  decide +kernel

/-- R117: the first four slots of the all-ones state; wraparound, and the logical right shifts. -/
theorem test_slots_of_all_ones :
    let t := slotSteps 4 (counterStep ones)
    t.readMemory 0#8 = 0x00001ffc#32 ∧ t.readMemory 1#8 = 0x00001f7d#32 ∧ t.readMemory 2#8 = 0x0000617c#32 ∧
      t.readMemory 3#8 = 0x0000617b#32 ∧ t.readResults 0#8 = 0xfffffffe#32 ∧ t.c = 0#32 ∧ t.b = 0xfffffffe#32 := by decide +kernel

/-- R116: slots 0 and 1 of the all-zero state, where `lookup2(y)` = `i` reads the word just written. -/
theorem test_slots_of_all_zeros :
    let t := slotSteps 2 (counterStep State.reset)
    t.readMemory 0#8 = 1#32 ∧ t.readMemory 1#8 = 2#32 ∧ t.readResults 0#8 = 1#32 ∧ t.readResults 1#8 = 1#32 ∧ t.b = 1#32 := by
  decide +kernel

/-- V-INIT-1, sweep 2 (R85, R94): its first chunk starts from `memory[248..255]` of sweep 1 and folds `memory[0..7]` of sweep 1. -/
theorem test_second_sweep_first_chunk_of_zero_seed :
    sweepScalars
      #v[0x7063e8a7#32, 0x600de728#32, 0x95be877a#32, 0xad866210#32, 0x9d7f2466#32, 0x69777b33#32, 0x86da32df#32, 0xf02de120#32]
      (fun _ t => #v[0x06cca0e5#32, 0x7bcc7892#32, 0x1ab2de71#32, 0x2bfc6cb4#32, 0x55056274#32, 0xaf9b10f9#32, 0x13a1c75c#32,
        0x10239bf4#32][t]) 1 =
      #v[0xdb792195#32, 0xe63bf923#32, 0x4f6f076d#32, 0x122cded5#32, 0xda711220#32, 0x4f6fcee6#32, 0x45e45c44#32, 0xcf852932#32] := by
  decide +kernel

/-! Commands. -/

/-- V-NEXT-6: cursor in the middle. -/
theorem test_next_in_the_middle :
    answers (execNext { ready 100#9 with results := (Vector.replicate 256 0#32).set 99 0x12345678#32 }) = [⟨.ok, 0x12345678#32⟩] := by
  decide +kernel

/-- V-FLT-1: `NEXT` right after reset. -/
theorem test_next_after_reset : step (State.reset.send [0x02000000#32]) = .next { State.reset with responses := [⟨.err, 3#32⟩] } := rfl

/-- V-FLT-3: 257 words after reset, the next word left for the next command. -/
theorem test_initf_of_257_words :
    let o := step (State.reset.send (0x01010101#32 :: (List.replicate 257 0#32 ++ [0x02000000#32])))
    answers o = [⟨.err, 2#32⟩] ∧ left o = [0x02000000#32] := by decide +kernel

/-- V-FLT-8: `INITS` is checked too. -/
theorem test_inits_of_257_words :
    answers (step (State.reset.send (0x01000101#32 :: List.replicate 257 0#32))) = [⟨.err, 2#32⟩] := by decide +kernel

/-- P6, first command: `INITS 9, 9, 9` takes its three words and answers `(OK, 0)`. -/
theorem test_inits_answers_ok :
    (match step (State.reset.send [0x01000003#32, 9#32, 9#32, 9#32, 0x02000000#32]) with
      | .next t => t.valid && t.cursor == 256#9 && t.commands == [0x02000000#32]
      | _ => false) = true := by decide +kernel

/-- V-FLT-5: an illegal header does not move the cursor. -/
theorem test_illegal_header_changes_nothing :
    step ((ready 255#9).send [0x02000001#32]) = .next { ready 255#9 with responses := [⟨.err, 1#32⟩] } := rfl

/-- P7: two of four payload words have arrived; the core waits. -/
theorem test_incomplete_payload_waits :
    step ((ready 255#9).send [0x01010004#32, 5#32, 6#32]) = .next ((ready 255#9).send [0x01010004#32, 5#32, 6#32]) := rfl

/-- V-RST-3: a reset during that wait discards the words and gives no response. -/
theorem test_reset_abandons_a_command :
    (match step ((ready 255#9).send [0x01010004#32, 5#32, 6#32]).assertReset with
      | .next t => !t.valid && t.commands == [] && t.responses == [] && !t.resetPending
      | _ => false) = true := by decide +kernel

/-! Witnesses: for each statement of Certificates/Slice0/Obligations.lean with hypotheses, states and operands that meet them all. -/

theorem witness_DecodeOfEncodeIsTheCommand :
    (Instr.initf [1#32]).WellFormed ∧ (Instr.inits (List.replicate 65535 0#32)).WellFormed ∧ Instr.next.WellFormed := by
  refine ⟨by decide, ?_, by decide⟩
  rw [Instr.WellFormed, Instr.payload, List.length_replicate]
  exact Nat.lt_succ_self 65535

theorem witness_EncodeOfDecodedIsTheStream :
    decode [0x01010001#32, 7#32, 8#32] = .command (.initf [7#32]) [8#32] ∧ decode [0x01000000#32] = .command (.inits []) [] ∧
      decode [0x02000000#32] = .command .next [] := by decide

theorem witness_IllegalHeadersFaultAndTakeOneWord :
    (State.reset.send [0x03000000#32]).resetPending = false ∧ (State.reset.send [0x03000000#32]).commands = [0x03000000#32] := by decide

/-- One header of each of the four illegal sets. -/
theorem witness_IllegalHeadersFaultAndTakeOneWord_sets :
    (0x00FFFFFF#32 : Word).toNat / 2 ^ 24 = 0 ∧ 3 ≤ (0x03000000#32 : Word).toNat / 2 ^ 24 ∧
      ((0x01020000#32 : Word).toNat / 2 ^ 24 = 1 ∧ (0x01020000#32 : Word).toNat / 2 ^ 17 % 2 ^ 7 ≠ 0) ∧
      ((0x02000001#32 : Word).toNat / 2 ^ 24 = 2 ∧ (0x02000001#32 : Word).toNat % 2 ^ 24 ≠ 0) := by decide

theorem witness_IncompleteCommandWaits_no_word : State.reset.resetPending = false ∧ State.reset.commands = [] := by decide

theorem witness_IncompleteCommandWaits_one_word_short :
    let s := State.reset.send [0x01010002#32, 7#32]
    s.resetPending = false ∧ s.commands = 0x01010002#32 :: [7#32] ∧ (0x01010002#32 : Word).toNat / 2 ^ 17 = 128 ∧
      [7#32].length < (0x01010002#32 : Word).toNat % 2 ^ 16 := by decide

theorem witness_StepRunsTheDecodedCommand :
    (State.reset.send [0x02000000#32]).resetPending = false ∧ decode (State.reset.send [0x02000000#32]).commands = .command .next [] := by
  decide

theorem witness_ResetClearsValidAndDiscardsCommands :
    (ready 3#9).assertReset.resetPending = true ∧ decode [0x01010000#32] = .command (.initf []) [] := by decide

theorem witness_EveryStepKeepsTheInvariant :
    GeneratorInv ((ready 256#9).send [0x02000000#32]) ∧
      step ((ready 256#9).send [0x02000000#32]) = .next { ready 255#9 with responses := [⟨.ok, 0#32⟩] } :=
  ⟨by decide, rfl⟩

theorem witness_NoStepStopsUnderTheInvariant : GeneratorInv (ready 0#9) ∧ GeneratorInv (ready 256#9) ∧ GeneratorInv State.reset := by decide

theorem witness_ValidIsSetByInitAndClearedByReset_init :
    (match step (State.reset.send [0x01010000#32]) with | .next t => t.valid | _ => false) = true ∧
      State.reset.resetPending = false ∧ decode [0x01010000#32] = .command (.initf []) [] := by decide

theorem witness_ValidIsSetByInitAndClearedByReset_reset :
    (match step (ready 9#9).assertReset with | .next t => !t.valid | _ => false) = true := by decide

theorem witness_EveryCommandGivesOneResponse_illegal :
    step (State.reset.send [0#32]) = .next { State.reset with responses := [⟨.err, 1#32⟩] } ∧ decode [0#32] = .illegal 0#32 [] :=
  ⟨rfl, by decide⟩

theorem witness_EveryCommandGivesOneResponse_init :
    (match step (State.reset.send [0x01000000#32]) with | .next t => t.commands == [] | _ => false) = true ∧
      decode [0x01000000#32] = .command (.inits []) [] := by decide +kernel

theorem witness_EveryCommandGivesOneResponse_next :
    step (State.reset.send [0x02000000#32]) = .next { State.reset with responses := [⟨.err, 3#32⟩] } ∧ State.reset.valid = false ∧
    step ((ready 1#9).send [0x02000000#32]) = .next { ready 0#9 with responses := [⟨.ok, 0#32⟩] } ∧ (ready 1#9).valid = true :=
  ⟨rfl, by decide, rfl, by decide⟩

theorem witness_FaultsLeaveNoTrace :
    step (State.reset.send [0x02000000#32]) = .next { State.reset with responses := State.reset.responses ++ [⟨.err, 3#32⟩] } :=
  rfl

theorem witness_OverlongSeedIsRejected :
    ∃ s : State, s.resetPending = false ∧ 256 < (List.replicate 257 0#32).length ∧ (List.replicate 257 0#32).length < 65536 ∧
      s.commands = encode (.inits (List.replicate 257 0#32)) ++ [0x02000000#32] :=
  ⟨{ State.reset with commands := encode (.inits (List.replicate 257 0#32)) ++ [0x02000000#32] }, rfl,
    replicate_length (P := fun n => 256 < n) (by decide), replicate_length (P := fun n => n < 65536) (by decide), rfl⟩

theorem witness_InitCompletesWithAFreshBlock :
    ([] : List Word).length ≤ 256 ∧ (List.replicate 256 0xffffffff#32).length ≤ 256 :=
  ⟨by decide, replicate_length (P := fun n => n ≤ 256) (by decide)⟩

theorem witness_InitEndsInOneRegenFromZero :
    ∃ u : State, u.memory = (mixPool true (seedCopy [1#32] (ready 7#9))).memory ∧ u.a = 0#32 ∧ u.b = 0#32 ∧ u.c = 0#32 :=
  ⟨{ State.reset with memory := (mixPool true (seedCopy [1#32] (ready 7#9))).memory }, rfl, rfl, rfl, rfl⟩

theorem witness_SeedCopyFillsResults : (List.replicate 256 1#32).length ≤ 256 ∧ [1#32].length ≤ 256 :=
  ⟨replicate_length (P := fun n => n ≤ 256) (by decide), by decide⟩

/-- The first and the last chunk of a sweep, for the statements about sweeps. -/
theorem witness_PoolIsOneChainOfScalars : 0 < 32 ∧ 31 < 32 := by decide

theorem witness_InitDependsOnNoPriorState : State.reset ≠ ready 300#9 ∧ [1#32, 2#32, 3#32, 4#32].length ≤ 256 :=
  ⟨fun h => absurd (congrArg State.valid h) (by decide), by decide⟩

theorem witness_InitsIgnoresItsOperands :
    [9#32, 9#32, 9#32].length ≤ 256 ∧ (List.replicate 256 0xffffffff#32).length ≤ 256 ∧ ∀ k : Index, State.reset.readResults k = 0#32 := by
  refine ⟨by decide, replicate_length (P := fun n => n ≤ 256) (by decide), fun k => ?_⟩
  simp [State.readResults, State.reset]

theorem witness_TrailingZeroSeedWordsDoNotMatter : [1#32, 2#32, 3#32, 4#32].length + 252 ≤ 256 ∧ ([] : List Word).length + 256 ≤ 256 := by
  decide

theorem witness_NextFaultsExactlyWhenUninitialised :
    State.reset.valid = false ∧ (ready 256#9).valid = true ∧ (ready 256#9).cursor.toNat ≤ 256 ∧ (ready 0#9).cursor.toNat ≤ 256 := by decide

theorem witness_NextDrawsBackwardAndRefillsLazily :
    (ready 1#9).valid = true ∧ (ready 1#9).cursor.toNat = 0 + 1 ∧ (ready 256#9).cursor.toNat = 255 + 1 ∧ (ready 0#9).valid = true ∧
      (ready 0#9).cursor = 0#9 := by decide

theorem witness_NextStopsOnAnIllegalCursor :
    (ready 257#9).valid = true ∧ 256 < (ready 257#9).cursor.toNat ∧ 256 < (ready 511#9).cursor.toNat := by decide

theorem witness_UnreturnedValuesLeaveInDescendingOrder :
    (ready 256#9).valid = true ∧ (ready 256#9).cursor.toNat ≤ 256 ∧ 256 ≤ (ready 256#9).cursor.toNat ∧ 0 ≤ (ready 0#9).cursor.toNat := by
  decide

theorem witness_DrawsRunBlockByBlockBackward : (ready 256#9).valid = true ∧ (ready 256#9).cursor = 256#9 ∧ 1 ≤ 257 := by decide

theorem witness_CursorAndCounterCountTheDraws : [1#32, 2#32, 3#32, 4#32].length ≤ 256 ∧ 1 ≤ 513 := by decide

theorem witness_SameSeedAndPassCountSameOutputs : (List.replicate 256 7#32).length ≤ 256 :=
  replicate_length (P := fun n => n ≤ 256) (by decide)

theorem witness_NoValueLeavesBeforeInitialisation :
    (match step (State.reset.send [0x01010000#32]) with | .next t => t.responses == [⟨.ok, 0#32⟩] | _ => false) = true ∧
      (State.reset.send [0x01010000#32]).valid = false := by decide +kernel

theorem witness_ResetValuesAreNeverObserved :
    let t := { State.reset with a := 5#32, cursor := 400#9 }
    State.reset ≠ t ∧ State.reset.valid = false ∧ t.valid = false ∧ State.reset.commands = t.commands ∧
      State.reset.resetPending = t.resetPending ∧ State.reset.responses = t.responses :=
  ⟨fun h => absurd (congrArg State.a h) (by decide), rfl, rfl, rfl, rfl, rfl⟩

theorem witness_CounterStepAdvancesCThenB : ones.c = 0xFFFFFFFF#32 := by decide

/-- Every clause has its state: the zero pool aliases `lookup` and `lookup2` with slot 0, and with the partner of slot 128. -/
theorem witness_SlotStepAliasingCorners :
    lookup (State.reset.readMemory 0#8) = 0#8 ∧ lookup2 ((slotStep 0#8 State.reset).readMemory 0#8) = 0#8 ∧
      lookup (State.reset.readMemory 128#8) = partner 128#8 ∧ lookup2 ((slotStep 128#8 State.reset).readMemory 128#8) = partner 128#8 ∧
      State.reset.a = 0#32 := by decide

theorem witness_SlotsSeeOldWordsAheadAndNewWordsBehind : 127 < 256 ∧ 127 < 128 ∧ 255 < 256 ∧ 128 ≤ 255 := by decide

theorem witness_RegenReadsOnlyPoolAndAccumulators :
    State.reset ≠ ready 5#9 ∧ State.reset.memory = (ready 5#9).memory ∧ State.reset.a = (ready 5#9).a ∧ State.reset.b = (ready 5#9).b ∧
      State.reset.c = (ready 5#9).c :=
  ⟨fun h => absurd (congrArg State.valid h) (by decide), rfl, rfl, rfl, rfl⟩

theorem witness_WordOperationsWrapModulo32Bits : 1 ≤ 31 ∧ 31 ≤ 31 := by decide

end Sys2Proof.Tests
end

/-! # What `REGEN` leaves in each field, and what it depends on (spec/43_regenerate.md R105 to R113) -/

namespace Sys2Proof.Machine

variable {s t : State}

@[simp] theorem regen_valid (s : State) : (regen s).valid = s.valid := regen_frame s State.valid (fun _ _ => rfl) fun _ => rfl

@[simp] theorem regen_cursor (s : State) : (regen s).cursor = s.cursor := regen_frame s State.cursor (fun _ _ => rfl) fun _ => rfl

/-- The counter step is the only one of `REGEN`'s that writes `c` (R106). -/
theorem regen_c (s : State) : (regen s).c = s.c + 1#32 := slotSteps_frame (counterStep s) State.c (fun _ _ => rfl) 256

/-- A slot step stores its new `b` as the result of its slot (R107 (4)). -/
theorem slotStep_b_eq_readResults (i : Index) (s : State) : (slotStep i s).b = (slotStep i s).readResults i := by
  rw [slotStep_readResults, if_pos rfl, slotStep_b]

/-- `REGEN` ends with slot 255, so `b` is the last word of the block (R112, R22 (e)). -/
theorem regen_b (s : State) : (regen s).b = (regen s).readResults 255#8 := by
  have h : regen s = slotStep 255#8 (slotSteps 255 (counterStep s)) := slotSteps_succ (counterStep s) 255
  rw [h, slotStep_b_eq_readResults]

theorem toNat_ne_of_ne_directIndex {k : Index} {n : Nat} (hn : n < 256) (h : k ≠ directIndex n) : k.toNat ≠ n :=
  fun e => h (BitVec.eq_of_toNat_eq (by rw [directIndex_toNat hn, e]))

/-- Two runs of `REGEN` before slot `n`: the pools and the accumulators agree, and so does what has been stored of the block. -/
structure SlotsAgree (n : Nat) (s t : State) : Prop where
  memory : s.memory = t.memory
  a : s.a = t.a
  b : s.b = t.b
  c : s.c = t.c
  results : ∀ k : Index, k.toNat < n → s.readResults k = t.readResults k

/-- What slot `i` stores is read from the pool, `a` and `b` alone (R107). -/
theorem slot_congr (i : Index) (hm : s.memory = t.memory) (ha : s.a = t.a) (hb : s.b = t.b) :
    slotA i s = slotA i t ∧ slotY i s = slotY i t ∧ slotB i s = slotB i t := by
  have hA : slotA i s = slotA i t := by simp only [slotA, State.readMemory, hm, ha]
  have hY : slotY i s = slotY i t := by simp only [slotY, State.readMemory, hm, hA, hb]
  have hB : slotB i s = slotB i t := by simp only [slotB, State.readMemory, State.writeMemory_memory, hm, hY]
  exact ⟨hA, hY, hB⟩

theorem SlotsAgree.succ {n : Nat} (h : SlotsAgree n s t) (hn : n < 256) :
    SlotsAgree (n + 1) (slotStep (directIndex n) s) (slotStep (directIndex n) t) := by
  obtain ⟨hA, hY, hB⟩ := slot_congr (directIndex n) h.memory h.a h.b
  refine ⟨?_, hA, hB, h.c, fun k hk => ?_⟩
  · simp only [slotStep_eq, h.memory, hY]
  · rw [slotStep_readResults, slotStep_readResults, hB]
    by_cases e : k = directIndex n
    · rw [if_pos e, if_pos e]
    · have ek : k.toNat ≠ n := toNat_ne_of_ne_directIndex hn e
      rw [if_neg e, if_neg e, h.results k (by omega)]

/-- What `REGEN` makes is a function of the pool and the accumulators: it reads no word of the old block (R105, R113). -/
theorem regen_congr (hm : s.memory = t.memory) (ha : s.a = t.a) (hb : s.b = t.b) (hc : s.c = t.c) :
    (regen s).memory = (regen t).memory ∧ (regen s).results = (regen t).results ∧ (regen s).a = (regen t).a ∧
      (regen s).b = (regen t).b ∧ (regen s).c = (regen t).c := by
  have h0 : SlotsAgree 0 (counterStep s) (counterStep t) :=
    ⟨hm, ha, by simp only [counterStep, State.setB_b, State.setC_b, State.setC_c, hb, hc],
      by simp only [counterStep, State.setB_c, State.setC_c, hc], fun k hk => absurd hk (Nat.not_lt_zero _)⟩
  have h : SlotsAgree 256 (regen s) (regen t) := forUp_rel SlotsAgree _ _ 256 _ _ h0 fun k u v hk huv => huv.succ hk
  exact ⟨h.memory, block_ext fun k => h.results k k.isLt, h.a, h.b, h.c⟩

end Sys2Proof.Machine

/-! # What an initialisation leaves, whatever stood before it (spec/41_init.md R81 to R90) -/

namespace Sys2Proof.Machine

variable {s t : State}

/-- The seed copy overwrites every word of `results` (R81). -/
theorem seedCopy_readResults (seed : List Word) (s : State) (k : Index) :
    (seedCopy seed s).readResults k = seedWord seed k.toNat := by
  refine forUp_induct (fun n u => ∀ k : Index, k.toNat < n → u.readResults k = seedWord seed k.toNat) _ 256 s
    (fun k hk => absurd hk (Nat.not_lt_zero _)) (fun n u hn ih k hk => ?_) k k.isLt
  rw [readResults_writeResults]
  by_cases e : k = directIndex n
  · rw [if_pos e, e, directIndex_toNat hn]
  · have ek : k.toNat ≠ n := toNat_ne_of_ne_directIndex hn e
    rw [if_neg e, ih k (by omega)]

/-- The block after the seed copy is the seed's alone. -/
theorem seedCopy_results_congr (seed : List Word) (s t : State) : (seedCopy seed s).results = (seedCopy seed t).results :=
  block_ext fun k => (seedCopy_readResults seed s k).trans (seedCopy_readResults seed t k).symm

/-- The store of chunk `g` carries agreement of the pools below the chunk to agreement up to its end. -/
theorem storeChunk_agree {g : Nat} (hg : g < 32) (sc : Scalars)
    (h : ∀ k : Index, k.toNat < 8 * g → s.readMemory k = t.readMemory k) (k : Index) (hk : k.toNat < 8 * (g + 1)) :
    (storeChunk g sc s).readMemory k = (storeChunk g sc t).readMemory k := by
  rw [storeChunk_readMemory s hg, storeChunk_readMemory t hg]
  by_cases e : 8 * g ≤ k.toNat ∧ k.toNat < 8 * g + 8
  · rw [dif_pos e, dif_pos e]
  · rw [dif_neg e, dif_neg e, h k (by omega)]

/-- A chunk of either sweep stores the scalars it goes on with (R84, R85). -/
theorem firstSweepChunk_snd (full : Bool) (g : Nat) (w : Scalars × State) :
    (firstSweepChunk full g w).2 = storeChunk g (firstSweepChunk full g w).1 w.2 := rfl

theorem secondSweepChunk_snd (g : Nat) (w : Scalars × State) :
    (secondSweepChunk g w).2 = storeChunk g (secondSweepChunk g w).1 w.2 := rfl

/-- Two first sweeps before chunk `g`: scalars and block agree, and so do the words already stored to the pool. -/
structure SweepsAgree (g : Nat) (w w' : Scalars × State) : Prop where
  scalars : w.1 = w'.1
  results : w.2.results = w'.2.results
  memory : ∀ k : Index, k.toNat < 8 * g → w.2.readMemory k = w'.2.readMemory k

theorem SweepsAgree.succ {g : Nat} {w w' : Scalars × State} (full : Bool) (h : SweepsAgree g w w') (hg : g < 32) :
    SweepsAgree (g + 1) (firstSweepChunk full g w) (firstSweepChunk full g w') := by
  have hsc : (firstSweepChunk full g w).1 = (firstSweepChunk full g w').1 := by
    simp only [firstSweepChunk, State.readResults, h.scalars, h.results]
  have hres (u : Scalars × State) : (firstSweepChunk full g u).2.results = u.2.results :=
    storeChunk_frame u.2 State.results (fun _ _ _ => rfl) g _
  refine ⟨hsc, by rw [hres, hres, h.results], fun k hk => ?_⟩
  rw [firstSweepChunk_snd, firstSweepChunk_snd, hsc]
  exact storeChunk_agree hg _ h.memory k hk

/-- The first sweep overwrites the whole pool: what it leaves is a function of the block (R84). -/
theorem firstSweep_congr (full : Bool) (sc : Scalars) (h : s.results = t.results) :
    (firstSweep full 32 (sc, s)).1 = (firstSweep full 32 (sc, t)).1 ∧
      (firstSweep full 32 (sc, s)).2.memory = (firstSweep full 32 (sc, t)).2.memory := by
  have agree : SweepsAgree 32 (firstSweep full 32 (sc, s)) (firstSweep full 32 (sc, t)) :=
    forUp_rel SweepsAgree _ _ 32 _ _ ⟨rfl, h, fun k hk => absurd hk (Nat.not_lt_zero _)⟩ fun _ _ _ hg hw => hw.succ full hg
  exact ⟨agree.scalars, block_ext fun k => agree.memory k k.isLt⟩

/-- The second sweep is a function of the scalars and the pool it is given (R85). -/
theorem secondSweep_congr {w w' : Scalars × State} (hsc : w.1 = w'.1) (hm : w.2.memory = w'.2.memory) :
    (secondSweep 32 w).2.memory = (secondSweep 32 w').2.memory := by
  refine (forUp_rel (fun _ (u v : Scalars × State) => u.1 = v.1 ∧ u.2.memory = v.2.memory) secondSweepChunk secondSweepChunk 32 w w'
    ⟨hsc, hm⟩ fun g u v hg huv => ?_).2
  obtain ⟨hs, hmem⟩ := huv
  have hsc' : (secondSweepChunk g u).1 = (secondSweepChunk g v).1 := by
    simp only [secondSweepChunk, State.readMemory, hs, hmem]
  refine ⟨hsc', block_ext fun k => ?_⟩
  change (secondSweepChunk g u).2.readMemory k = (secondSweepChunk g v).2.readMemory k
  rw [secondSweepChunk_snd, secondSweepChunk_snd, hsc', storeChunk_readMemory u.2 hg, storeChunk_readMemory v.2 hg]
  simp only [State.readMemory, hmem]

/-- The mixed pool is a function of the block alone (R83 to R86). -/
theorem mixPool_memory_congr (full : Bool) (h : s.results = t.results) : (mixPool full s).memory = (mixPool full t).memory := by
  obtain ⟨hsc, hm⟩ := firstSweep_congr full preMix h
  cases full with
  | true => exact secondSweep_congr hsc hm
  | false => exact hm

/-- The sweeps leave the accumulators at the zeros of step 1 (R82). -/
theorem mixPool_zeroAccumulators (full : Bool) (s : State) : (mixPool full (zeroAccumulators s)).a = 0#32 ∧
    (mixPool full (zeroAccumulators s)).b = 0#32 ∧ (mixPool full (zeroAccumulators s)).c = 0#32 :=
  ⟨mixPool_frame _ State.a (fun _ _ _ => rfl) full, mixPool_frame _ State.b (fun _ _ _ => rfl) full,
    mixPool_frame _ State.c (fun _ _ _ => rfl) full⟩

/-- An initialisation is one `REGEN` from zero accumulators: it ends with `c` = 1 (R82, R88). -/
theorem initGenerator_c (full : Bool) (seed : List Word) (s : State) : (initGenerator full seed s).c = 1#32 := by
  obtain ⟨-, -, hc⟩ := mixPool_zeroAccumulators full (seedCopy seed s)
  rw [initGenerator_eq, State.setValid_c, State.setCursor_c, regen_c, hc]
  decide

/-- An initialisation ends in a `REGEN`, so `b` is the last word of its block (R88). -/
theorem initGenerator_b (full : Bool) (seed : List Word) (s : State) :
    (initGenerator full seed s).b = (initGenerator full seed s).readResults 255#8 := by
  rw [initGenerator_eq]
  exact regen_b _

/-- An initialisation makes the same generator from every state (R90). -/
theorem initGenerator_sameGenerator (full : Bool) (seed : List Word) (s t : State) :
    SameGenerator (initGenerator full seed s) (initGenerator full seed t) := by
  have hpool : (mixPool full (zeroAccumulators (seedCopy seed s))).memory = (mixPool full (zeroAccumulators (seedCopy seed t))).memory :=
    mixPool_memory_congr full (seedCopy_results_congr seed s t)
  obtain ⟨ha, hb, hc⟩ := mixPool_zeroAccumulators full (seedCopy seed s)
  obtain ⟨ha', hb', hc'⟩ := mixPool_zeroAccumulators full (seedCopy seed t)
  obtain ⟨hm, hr, ha, hb, hc⟩ := regen_congr hpool (ha.trans ha'.symm) (hb.trans hb'.symm) (hc.trans hc'.symm)
  rw [initGenerator_eq, initGenerator_eq]
  simp [SameGenerator, hm, hr, ha, hb, hc]

end Sys2Proof.Machine

/-! # The three commands: what `exec` answers (spec/41_init.md R80, R91; spec/42_next.md R95 to R97) -/

namespace Sys2Proof.Machine

variable {s t : State} {seed : List Word} {i : Instr}

theorem exec_initf (seed : List Word) (s : State) : exec (.initf seed) s = .next (initCommand true seed s) := rfl

theorem exec_inits (seed : List Word) (s : State) : exec (.inits seed) s = .next (initCommand false seed s) := rfl

theorem exec_next (s : State) : exec .next s = execNext s := rfl

/-- `INITF` and `INITS` are one rule; the pass flag is the only difference (R80). -/
theorem exec_init (hi : i = .initf seed ∨ i = .inits seed) : ∃ full, ∀ s, exec i s = .next (initCommand full seed s) := by
  obtain rfl | rfl := hi
  · exact ⟨true, exec_initf seed⟩
  · exact ⟨false, exec_inits seed⟩

theorem initCommand_of_le (full : Bool) (h : seed.length ≤ 256) (s : State) :
    initCommand full seed s = (initGenerator full seed s).respond ⟨.ok, 0#32⟩ := if_neg (Nat.not_lt.mpr h)

theorem initCommand_of_lt (full : Bool) (h : 256 < seed.length) (s : State) :
    initCommand full seed s = s.respond ⟨.err, FaultCause.code .seedTooLong⟩ := if_pos h

/-- A command that initialises sets `valid` exactly if its seed is short enough (R18, R91). -/
theorem initCommand_valid (full : Bool) (seed : List Word) (s : State) :
    (initCommand full seed s).valid = true ↔ s.valid = true ∨ seed.length ≤ 256 := by
  obtain h | h := Nat.lt_or_ge 256 seed.length
  · simp [initCommand_of_lt full h, Nat.not_le.mpr h]
  · simp [initCommand_of_le full h, h]

/-- What neither `REGEN` nor a write of the cursor changes, the refill does not change. -/
theorem refill_frame {τ : Type} (proj : State → τ) (hg : ∀ s, proj (regen s) = proj s) (hc : ∀ s v, proj (State.setCursor s v) = proj s)
    (s : State) : proj (refill s) = proj s := by
  by_cases h : s.cursor = 0#9
  · rw [refill_of_zero s h, hc, hg]
  · rw [refill_of_ne s h]

@[simp] theorem refill_valid (s : State) : (refill s).valid = s.valid := refill_frame State.valid regen_valid (fun _ _ => rfl) s
@[simp] theorem refill_commands (s : State) : (refill s).commands = s.commands :=
  refill_frame State.commands regen_commands (fun _ _ => rfl) s
@[simp] theorem refill_responses (s : State) : (refill s).responses = s.responses :=
  refill_frame State.responses regen_responses (fun _ _ => rfl) s
@[simp] theorem refill_resetPending (s : State) : (refill s).resetPending = s.resetPending :=
  refill_frame State.resetPending regen_resetPending (fun _ _ => rfl) s

/-- The refill keeps `b` at the last word of the block, by the `REGEN` it runs (R22 (e)). -/
theorem refill_b (h : s.b = s.readResults 255#8) : (refill s).b = (refill s).readResults 255#8 := by
  by_cases h0 : s.cursor = 0#9
  · rw [refill_of_zero s h0, State.setCursor_b, readResults_setCursor, regen_b]
  · rw [refill_of_ne s h0, h]

/-- After the refill a legal cursor counts at least one value, so the decremented one is an index (R97). -/
theorem refill_cursor_pred_lt (h : s.cursor.toNat ≤ 256) : ((refill s).cursor - 1#9).toNat < 256 := by
  by_cases h0 : s.cursor = 0#9
  · rw [refill_of_zero s h0, State.setCursor_cursor]
    decide
  · rw [refill_of_ne s h0]
    bv_omega

theorem execNext_of_not_valid (h : s.valid = false) : execNext s = .next (s.respond ⟨.err, FaultCause.code .notInitialized⟩) := by
  simp [execNext, h]

/-- With `valid` = 1 and a legal cursor `NEXT` draws from the refilled block (R97). -/
theorem execNext_of_legal (hv : s.valid = true) (hc : s.cursor.toNat ≤ 256) : execNext s =
    .next (((refill s).setCursor ((refill s).cursor - 1#9)).respond
      ⟨.ok, (refill s).results[((refill s).cursor - 1#9).toNat]'(refill_cursor_pred_lt hc)⟩) := by
  simp [execNext, hv, drawValue, resultAt_of_lt _ _ (refill_cursor_pred_lt hc)]

/-- With `n + 1` values left `NEXT` returns the one at index `n` and changes only the cursor (R97). -/
theorem execNext_of_cursor_succ {n : Nat} (hv : s.valid = true) (hn : n < 256) (hc : s.cursor.toNat = n + 1) : execNext s =
    .next { s with cursor := BitVec.ofNat 9 n, responses := s.responses ++ [⟨.ok, s.readResults (BitVec.ofNat 8 n)⟩] } := by
  have hne : s.cursor ≠ 0#9 := fun h => by simp [h] at hc
  have hpred : s.cursor - 1#9 = BitVec.ofNat 9 n := by bv_omega
  have h9 : (BitVec.ofNat 9 n).toNat = n := by simp; omega
  have h8 : (BitVec.ofNat 8 n).toNat = n := by simp; omega
  rw [execNext_of_legal hv (by omega)]
  simp only [refill_of_ne s hne, hpred, h9, h8, State.readResults]
  rfl

/-- Whatever `NEXT` answers, it leaves `valid` as it was (R18). -/
theorem execNext_valid (h : execNext s = .next t) : t.valid = s.valid := by
  obtain ⟨-, e⟩ | ⟨_, -, e⟩ | ⟨-, -, e⟩ := execNext_cases s
  · cases e.symm.trans h
    rfl
  · cases e.symm.trans h
    exact refill_valid s
  · cases e.symm.trans h

/-- No command clears `valid`, and only an accepted initialisation sets it (R18). -/
theorem exec_valid (h : exec i s = .next t) :
    t.valid = true ↔ s.valid = true ∨ ∃ seed, (i = .initf seed ∨ i = .inits seed) ∧ seed.length ≤ 256 := by
  cases i with
  | initf seed =>
    cases h
    simp [initCommand_valid]
  | inits seed =>
    cases h
    simp [initCommand_valid]
  | next => simp [execNext_valid h]

end Sys2Proof.Machine

/-! # The invariant between commands (spec/10_state.md R22 (c), (e)) -/

namespace Sys2Proof.Machine

variable {s t : State}

/-- An uninitialised state owes the invariant nothing. -/
theorem generatorInv_of_not_valid (h : s.valid = false) : GeneratorInv s := fun hv => absurd hv (by simp [h])

/-- The invariant speaks of no channel, so a response does not touch it. -/
@[simp] theorem generatorInv_respond (r : Response) : GeneratorInv (s.respond r) ↔ GeneratorInv s := Iff.rfl

/-- Nor does taking words off the command channel. -/
@[simp] theorem generatorInv_setCommands (ws : List Word) : GeneratorInv (s.setCommands ws) ↔ GeneratorInv s := Iff.rfl

/-- An initialisation establishes the invariant, whatever stood before (R88, R89). -/
theorem initGenerator_generatorInv (full : Bool) (seed : List Word) (s : State) : GeneratorInv (initGenerator full seed s) := fun _ =>
  ⟨by rw [initGenerator_cursor]; decide, initGenerator_b full seed s⟩

theorem initCommand_generatorInv (full : Bool) (seed : List Word) (h : GeneratorInv s) : GeneratorInv (initCommand full seed s) := by
  obtain ⟨-, e⟩ | ⟨-, e⟩ := initCommand_cases s full seed
  · rw [e, State.takeFault_eq, generatorInv_respond]
    exact h
  · rw [e, State.respondOk_eq, generatorInv_respond]
    exact initGenerator_generatorInv full seed s

theorem execNext_generatorInv (hs : GeneratorInv s) (h : execNext s = .next t) : GeneratorInv t := by
  obtain ⟨-, e⟩ | ⟨hlt, hv, e⟩ | ⟨-, -, e⟩ := execNext_cases s
  · cases e.symm.trans h
    exact hs
  · cases e.symm.trans h
    exact fun _ => ⟨Nat.le_of_lt hlt, refill_b (hs hv).2⟩
  · cases e.symm.trans h

theorem exec_generatorInv {i : Instr} (hs : GeneratorInv s) (h : exec i s = .next t) : GeneratorInv t := by
  cases i with
  | initf seed =>
    cases h
    exact initCommand_generatorInv true seed hs
  | inits seed =>
    cases h
    exact initCommand_generatorInv false seed hs
  | next => exact execNext_generatorInv hs h

theorem takeReset_generatorInv (s : State) : GeneratorInv s.takeReset := generatorInv_of_not_valid s.takeReset_valid

theorem step_generatorInv (hs : GeneratorInv s) (h : step s = .next t) : GeneratorInv t := by
  obtain ⟨-, e⟩ | ⟨-, ⟨i, rest, -, e⟩ | ⟨w, rest, -, e⟩ | ⟨-, e⟩⟩ := step_cases s
  · cases e.symm.trans h
    exact takeReset_generatorInv s
  · exact exec_generatorInv ((generatorInv_setCommands rest).mpr hs) (e.symm.trans h)
  · cases e.symm.trans h
    exact hs
  · cases e.symm.trans h
    exact hs

/-- Settles O9: the four kinds of step each keep the invariant. -/
theorem everyStepKeepsTheInvariant : Obligations.EveryStepKeepsTheInvariant := fun _ _ => step_generatorInv

/-- Settles O8: `valid` = 0 at power-up and after every reset. -/
theorem resetStatesMeetTheInvariant : Obligations.ResetStatesMeetTheInvariant :=
  ⟨⟨rfl, rfl, rfl⟩, generatorInv_of_not_valid rfl, takeReset_generatorInv⟩

/-- Settles O11: `exec_valid` for a command; the other steps set nothing. -/
theorem validIsSetByInitAndClearedByReset : Obligations.ValidIsSetByInitAndClearedByReset := by
  intro s t h
  obtain ⟨hp, e⟩ | ⟨hp, ⟨i, rest, hd, e⟩ | ⟨w, rest, hd, e⟩ | ⟨hd, e⟩⟩ := step_cases s
  · cases e.symm.trans h
    simp [hp]
  · simp [exec_valid (e.symm.trans h), hp, hd, exists_or]
  · cases e.symm.trans h
    simp [hp, hd]
  · cases e.symm.trans h
    simp [hp, hd]

/-- Settles O15: an accepted `INIT` command is `initGenerator` and its response. -/
theorem initCompletesWithAFreshBlock : Obligations.InitCompletesWithAFreshBlock := by
  intro s seed i hi hlen
  obtain ⟨full, hexec⟩ := exec_init hi
  refine ⟨(initGenerator full seed s).respond ⟨.ok, 0#32⟩, by rw [hexec, initCommand_of_le full hlen], ?_⟩
  simp [SameInputs, initGenerator_c, initGenerator_b]

/-- Settles O25: the cursor is not 0, so nothing is refilled, and one less is no index. -/
theorem nextStopsOnAnIllegalCursor : Obligations.NextStopsOnAnIllegalCursor := by
  intro s hv hc
  have hne : s.cursor ≠ 0#9 := fun h => by simp [h] at hc
  have hge : 256 ≤ (s.cursor - 1#9).toNat := by bv_omega
  simp [exec_next, execNext, hv, refill_of_ne s hne, drawValue, resultAt_of_ge _ _ hge]

end Sys2Proof.Machine

/-! # Draws in a row (spec/10_state.md R22 (d)) -/

namespace Sys2Proof.Machine

variable {s t : State}

theorem nextTimes_succ_of_exec (m : Nat) (h : exec .next s = .next t) : nextTimes (m + 1) s = nextTimes m t := by
  simp only [nextTimes, h]

/-- Settles O26, by induction on the number of draws: the first leaves a state with one value fewer and the same block. -/
theorem unreturnedValuesLeaveInDescendingOrder : Obligations.UnreturnedValuesLeaveInDescendingOrder := by
  intro s m
  induction m generalizing s with
  | zero =>
    intro _ _ _
    simp [nextTimes]
  | succ m ih =>
    intro hv hc hm
    obtain ⟨n, hn⟩ : ∃ n, s.cursor.toNat = n + 1 := ⟨s.cursor.toNat - 1, by omega⟩
    have h9 : (BitVec.ofNat 9 n).toNat = n := by simp; omega
    have first := nextTimes_succ_of_exec m (execNext_of_cursor_succ hv (by omega) hn)
    refine first.trans ((ih _ ?_ ?_ ?_).trans ?_)
    · exact hv
    · rw [h9]
      omega
    · rw [h9]
      omega
    · simp [State.readResults, h9, hn, List.range_succ_eq_map, Function.comp_def, Nat.sub_sub, Nat.add_comm]

end Sys2Proof.Machine

/-! # What reset leaves is never observed (spec/10_state.md R27) -/

namespace Sys2Proof.Machine

variable {s t : State}

/-- Two cores a host cannot tell apart: the channels, the reset input and `valid` agree, and once `valid` = 1 the whole generator does.
The invariant is carried along since a legal cursor is what keeps `NEXT` from stopping. -/
structure Indistinguishable (s t : State) : Prop where
  commands : s.commands = t.commands
  responses : s.responses = t.responses
  resetPending : s.resetPending = t.resetPending
  valid : s.valid = t.valid
  generator : s.valid = true → SameGenerator s t
  inv : GeneratorInv s

theorem Indistinguishable.setCommands (h : Indistinguishable s t) (ws : List Word) :
    Indistinguishable (s.setCommands ws) (t.setCommands ws) :=
  ⟨rfl, h.responses, h.resetPending, h.valid, h.generator, h.inv⟩

theorem Indistinguishable.respond (h : Indistinguishable s t) (r : Response) : Indistinguishable (s.respond r) (t.respond r) :=
  ⟨h.commands, by simp only [State.respond_responses, h.responses], h.resetPending, h.valid, h.generator, h.inv⟩

/-- Reset clears `valid`, so that whatever it leaves, the two cores agree as far as they have to. -/
theorem Indistinguishable.takeReset (h : Indistinguishable s t) : Indistinguishable s.takeReset t.takeReset :=
  ⟨rfl, h.responses, rfl, rfl, fun hv => absurd hv (by simp), takeReset_generatorInv s⟩

theorem Indistinguishable.initGenerator (h : Indistinguishable s t) (full : Bool) (seed : List Word) :
    Indistinguishable (initGenerator full seed s) (initGenerator full seed t) where
  commands := by simp only [initGenerator_commands, h.commands]
  responses := by simp only [initGenerator_responses, h.responses]
  resetPending := by simp only [initGenerator_resetPending, h.resetPending]
  valid := by simp only [initGenerator_valid]
  generator _ := initGenerator_sameGenerator full seed s t
  inv := initGenerator_generatorInv full seed s

theorem Indistinguishable.initCommand (h : Indistinguishable s t) (full : Bool) (seed : List Word) :
    Indistinguishable (initCommand full seed s) (initCommand full seed t) := by
  obtain hlen | hlen := Nat.lt_or_ge 256 seed.length
  · rw [initCommand_of_lt full hlen, initCommand_of_lt full hlen]
    exact h.respond _
  · rw [initCommand_of_le full hlen, initCommand_of_le full hlen]
    exact (h.initGenerator full seed).respond _

/-- The same generator is refilled to the same generator. -/
theorem refill_sameGenerator (h : SameGenerator s t) : SameGenerator (refill s) (refill t) := by
  obtain ⟨hm, hr, ha, hb, hc, hcur, hv⟩ := id h
  by_cases h0 : s.cursor = 0#9
  · obtain ⟨hm', hr', ha', hb', hc'⟩ := regen_congr hm ha hb hc
    rw [refill_of_zero s h0, refill_of_zero t (hcur ▸ h0)]
    simp [SameGenerator, hm', hr', ha', hb', hc', hv]
  · rw [refill_of_ne s h0, refill_of_ne t (hcur ▸ h0)]
    exact h

theorem Indistinguishable.execNext (h : Indistinguishable s t) :
    ∃ u v, execNext s = .next u ∧ execNext t = .next v ∧ Indistinguishable u v := by
  cases hv : s.valid with
  | false => exact ⟨_, _, execNext_of_not_valid hv, execNext_of_not_valid (h.valid ▸ hv), h.respond _⟩
  | true =>
    obtain ⟨-, -, -, -, -, hcur, -⟩ := h.generator hv
    obtain ⟨hm, hr, ha, hb, hc, hcur', -⟩ := refill_sameGenerator (h.generator hv)
    obtain ⟨hlegal, -⟩ := h.inv hv
    have es := execNext_of_legal hv hlegal
    have et := execNext_of_legal (h.valid ▸ hv) (hcur ▸ hlegal)
    exact ⟨_, _, es, et,
      { commands := by simp [h.commands]
        responses := by simp [h.responses, hr, hcur']
        resetPending := by simp [h.resetPending]
        valid := by simp [h.valid]
        generator := by simp [SameGenerator, hm, hr, ha, hb, hc, hcur', h.valid]
        inv := execNext_generatorInv h.inv es }⟩

theorem Indistinguishable.exec (h : Indistinguishable s t) (i : Instr) :
    ∃ u v, exec i s = .next u ∧ exec i t = .next v ∧ Indistinguishable u v := by
  cases i with
  | initf seed => exact ⟨_, _, exec_initf seed s, exec_initf seed t, h.initCommand true seed⟩
  | inits seed => exact ⟨_, _, exec_inits seed s, exec_inits seed t, h.initCommand false seed⟩
  | next => exact h.execNext

/-- Two cores that agree so far take steps of the same kind, neither stops, and they agree again. -/
theorem Indistinguishable.step (h : Indistinguishable s t) :
    ∃ u v, step s = .next u ∧ step t = .next v ∧ Indistinguishable u v := by
  obtain ⟨hp, e⟩ | ⟨hp, ⟨i, rest, hd, e⟩ | ⟨w, rest, hd, e⟩ | ⟨hd, e⟩⟩ := step_cases s
  · exact ⟨_, _, e, step_reset t (h.resetPending ▸ hp), h.takeReset⟩
  · rw [e, step_command t (h.resetPending ▸ hp) (h.commands ▸ hd)]
    exact (h.setCommands rest).exec i
  · exact ⟨_, _, e, step_illegal t (h.resetPending ▸ hp) (h.commands ▸ hd), (h.setCommands rest).respond _⟩
  · exact ⟨_, _, e, step_waiting t (h.resetPending ▸ hp) (h.commands ▸ hd), h⟩

theorem run_succ_of_step {M : Host.Core} {s t : M.State} (n : Nat) (h : M.step s = .next t) : M.run (n + 1) s = M.run n t := by
  rw [Host.Core.run, h]

theorem Indistinguishable.run (h : Indistinguishable s t) (n : Nat) :
    ∃ u v, Host.Core.run Sys2Proof.core n s = .next u ∧ Host.Core.run Sys2Proof.core n t = .next v ∧ Indistinguishable u v := by
  induction n generalizing s t with
  | zero => exact ⟨s, t, rfl, rfl, h⟩
  | succ n ih =>
    obtain ⟨s', t', es, et, h'⟩ := h.step
    obtain ⟨u, v, eu, ev, h''⟩ := ih h'
    exact ⟨u, v, (run_succ_of_step n es).trans eu, (run_succ_of_step n et).trans ev, h''⟩

/-- Settles O31: with `valid` = 0 the generators need not agree, and no step tells the two cores apart. -/
theorem resetValuesAreNeverObserved : Obligations.ResetValuesAreNeverObserved := by
  intro s t n hs ht hcmd hp hresp
  have h0 : Indistinguishable s t :=
    ⟨hcmd, hresp, hp, hs.trans ht.symm, fun hv => absurd hv (by simp [hs]), generatorInv_of_not_valid hs⟩
  obtain ⟨u, v, eu, ev, h⟩ := h0.run n
  exact ⟨u, v, eu, ev, h.responses, h.commands, h.valid⟩

end Sys2Proof.Machine

/-! # The order of the array accesses (spec/20_memory.md R30, R38, R40) -/

namespace Sys2Proof.Machine

/-- Settles O40: the read-after-write law of each array; the frame is the definition of the write. -/
theorem arrayReadsGiveTheLatestWrite : Obligations.ArrayReadsGiveTheLatestWrite := fun s i k v =>
  ⟨readMemory_writeMemory s i k v, rfl, readResults_writeResults s i k v, rfl⟩

/-- What slot `k` alone writes stands as before the first slot until slot `k`, and as slot `k` left it from then on (R40). -/
theorem slotSteps_of_only_slot {τ : Type} (proj : State → τ) {k : Index} (h : ∀ i s, k ≠ i → proj (slotStep i s) = proj s)
    (s : State) {n : Nat} (hn : n ≤ 256) :
    proj (slotSteps n s) = if k.toNat < n then proj (slotSteps (k.toNat + 1) s) else proj s := by
  induction n with
  | zero => simp
  | succ n ih =>
    by_cases e : k = directIndex n
    · have ek : k.toNat = n := by rw [e, directIndex_toNat (by omega)]
      rw [ek, if_pos (Nat.lt_succ_self n)]
    · have ek : k.toNat ≠ n := toNat_ne_of_ne_directIndex (by omega) e
      have hlt : k.toNat < n + 1 ↔ k.toNat < n := by omega
      rw [slotSteps_succ, h _ _ e, ih (by omega), if_congr hlt rfl rfl]

/-- Before slot `n` the pool holds new words below `n` and old words from `n` on (R40). -/
theorem slotSteps_readMemory (s : State) {n : Nat} (hn : n ≤ 256) (k : Index) :
    (slotSteps n s).readMemory k = if k.toNat < n then (slotSteps (k.toNat + 1) s).readMemory k else s.readMemory k :=
  slotSteps_of_only_slot (State.readMemory · k) (fun i s hki => by rw [slotStep_readMemory, if_neg hki]) s hn

/-- The partner index as arithmetic (R32, R111). -/
theorem partner_toNat (i : Index) : (partner i).toNat = (i.toNat + 128) % 256 := BitVec.toNat_add i 128#8

/-- In the second half of `REGEN` the partner lies 128 slots back (R40). -/
theorem partner_directIndex_of_ge {n : Nat} (h : 128 ≤ n) (hn : n < 256) : partner (directIndex n) = directIndex (n - 128) := by
  apply BitVec.eq_of_toNat_eq
  rw [partner_toNat, directIndex_toNat hn, directIndex_toNat (by omega)]
  omega

/-- Settles O35: `slotSteps_readMemory` at any index, and at the partner, which lies ahead of slot `n` in the first half and behind it in the second. -/
theorem slotsSeeOldWordsAheadAndNewWordsBehind : Obligations.SlotsSeeOldWordsAheadAndNewWordsBehind := by
  intro s n hn
  refine ⟨slotSteps_readMemory s hn.le, fun h => ?_, fun h => ?_⟩
  · have ahead : ¬ (partner (directIndex n)).toNat < n := by
      rw [partner_toNat, directIndex_toNat hn]
      omega
    rw [slotSteps_readMemory s hn.le, if_neg ahead]
  · have behind : (directIndex (n - 128)).toNat = n - 128 := directIndex_toNat (by omega)
    rw [partner_directIndex_of_ge h hn, slotSteps_readMemory s hn.le, behind, if_pos (by omega)]

end Sys2Proof.Machine

/-! # The decoder and the encoder of the command stream (spec/30_encoding.md R47 to R57) -/

namespace Sys2Proof

variable {h : Word} {ws rest seed : List Word} {full : Bool} {len : Nat} {i : Instr}

/-- The header fields as numbers (R48). -/
theorem opField_toNat (h : Word) : (opField h).toNat = h.toNat / 2 ^ 24 := by
  simp only [opField, BitVec.extractLsb'_toNat, Nat.shiftRight_eq_div_pow]
  omega

theorem zField_toNat (h : Word) : (zField h).toNat = h.toNat / 2 ^ 17 % 2 ^ 7 := by
  simp only [zField, BitVec.extractLsb'_toNat, Nat.shiftRight_eq_div_pow]

theorem lenField_toNat (h : Word) : (lenField h).toNat = h.toNat % 2 ^ 16 := by
  simp only [lenField, BitVec.extractLsb'_toNat, Nat.shiftRight_zero]

/-- The pass flag is the one bit between `z` and `len` (R48). -/
theorem ofBool_passFlag (h : Word) : BitVec.ofBool (passFlag h) = h.extractLsb' 16 1 := by
  ext k hk
  obtain rfl : k = 0 := by omega
  simp [passFlag]

/-- `INITF` and `INITS` are written with one header layout, the pass flag apart (R49, R50). -/
theorem encode_initInstr (full : Bool) (seed : List Word) :
    encode (initInstr full seed) = headerWord 0x01#8 0#7 (BitVec.ofBool full) (BitVec.ofNat 16 seed.length) :: seed := by
  cases full <;> rfl

theorem wellFormed_initInstr : (initInstr full seed).WellFormed ↔ seed.length < 65536 := by
  cases full <;> rfl

/-- The three classes of a header word (R57). -/
theorem classify_cases (h : Word) :
    (opField h = 0x01#8 ∧ zField h = 0#7 ∧ classify h = .init (passFlag h) (lenField h).toNat) ∨
    (h = nextHeader ∧ classify h = .next) ∨
    (¬(opField h = 0x01#8 ∧ zField h = 0#7) ∧ h ≠ nextHeader ∧ classify h = .illegal) := by
  by_cases hinit : opField h = 0x01#8 ∧ zField h = 0#7
  · exact .inl ⟨hinit.1, hinit.2, if_pos hinit⟩
  · by_cases hnext : h = nextHeader
    · exact .inr (.inl ⟨hnext, (if_neg hinit).trans (if_pos hnext)⟩)
    · exact .inr (.inr ⟨hinit, hnext, (if_neg hinit).trans (if_neg hnext)⟩)

theorem classify_of_init (hop : opField h = 0x01#8) (hz : zField h = 0#7) : classify h = .init (passFlag h) (lenField h).toNat :=
  if_pos ⟨hop, hz⟩

/-- An `INIT` header is made of the fixed fields, its pass flag and its length, which fits 16 bits (R48 to R50). -/
theorem classify_eq_init (hc : classify h = .init full len) :
    h = headerWord 0x01#8 0#7 (BitVec.ofBool full) (BitVec.ofNat 16 len) ∧ len < 65536 := by
  obtain ⟨hop, hz, e⟩ | ⟨-, e⟩ | ⟨-, -, e⟩ := classify_cases h
  · cases e.symm.trans hc
    refine ⟨?_, (lenField h).isLt⟩
    rw [ofBool_passFlag, BitVec.ofNat_toNat, BitVec.setWidth_eq, ← hop, ← hz, headerWord_fields]
  · cases e.symm.trans hc
  · cases e.symm.trans hc

/-- All 32 bits of a `NEXT` header are fixed (R51). -/
theorem classify_eq_next (hc : classify h = .next) : h = nextHeader := by
  obtain ⟨-, -, e⟩ | ⟨hnext, -⟩ | ⟨-, -, e⟩ := classify_cases h
  · cases e.symm.trans hc
  · exact hnext
  · cases e.symm.trans hc

/-- Every header that is neither an `INIT`'s nor the `NEXT` header is illegal (R55). -/
theorem classify_eq_illegal : classify h = .illegal ↔ ¬(opField h = 0x01#8 ∧ zField h = 0#7) ∧ h ≠ nextHeader := by
  obtain ⟨hop, hz, e⟩ | ⟨hnext, e⟩ | ⟨hinit, hnext, e⟩ := classify_cases h
  · simp [e, hop, hz]
  · rw [e]
    simp [hnext]
  · exact iff_of_true e ⟨hinit, hnext⟩

theorem decode_of_illegal (hc : classify h = .illegal) (ws : List Word) : decode (h :: ws) = .illegal h ws := by
  simp only [decode, hc]

theorem decode_of_next (hc : classify h = .next) (ws : List Word) : decode (h :: ws) = .command .next ws := by
  simp only [decode, hc]

theorem decode_of_taken (hc : classify h = .init full len) (ht : takePayload len ws = some (seed, rest)) :
    decode (h :: ws) = .command (initInstr full seed) rest := by
  simp only [decode, hc, ht]

/-- An `INIT` header and fewer words than its `len` are no command yet (R52, R133). -/
theorem decode_of_short (hc : classify h = .init full len) (hw : ws.length < len) : decode (h :: ws) = .waiting := by
  simp only [decode, hc, takePayload_eq_none.mpr hw]

/-- The four things that can stand at a header position (R57). -/
theorem decode_cons_cases (h : Word) (ws : List Word) :
    (classify h = .illegal ∧ decode (h :: ws) = .illegal h ws) ∨
    (classify h = .next ∧ decode (h :: ws) = .command .next ws) ∨
    (∃ full seed rest, classify h = .init full seed.length ∧ ws = seed ++ rest ∧
      decode (h :: ws) = .command (initInstr full seed) rest) ∨
    (∃ full len, classify h = .init full len ∧ ws.length < len ∧ decode (h :: ws) = .waiting) := by
  cases hc : classify h with
  | illegal => exact .inl ⟨rfl, decode_of_illegal hc ws⟩
  | next => exact .inr (.inl ⟨rfl, decode_of_next hc ws⟩)
  | init full len =>
    cases ht : takePayload len ws with
    | none =>
      have hw : ws.length < len := takePayload_eq_none.mp ht
      exact .inr (.inr (.inr ⟨full, len, rfl, hw, decode_of_short hc hw⟩))
    | some taken =>
      obtain ⟨seed, rest⟩ := taken
      obtain ⟨hws, rfl⟩ := takePayload_eq_some ht
      exact .inr (.inr (.inl ⟨full, seed, rest, rfl, hws, decode_of_taken hc ht⟩))

/-- The words of an `INIT` are read back as that `INIT`, for either pass flag (R49, R50, R52). -/
theorem decode_encode_initInstr (full : Bool) (hlen : seed.length < 65536) (rest : List Word) :
    decode (encode (initInstr full seed) ++ rest) = .command (initInstr full seed) rest := by
  have hc : classify (headerWord 0x01#8 0#7 (BitVec.ofBool full) (BitVec.ofNat 16 seed.length)) = .init full seed.length := by
    simp [classify_of_init, Nat.mod_eq_of_lt hlen]
  rw [encode_initInstr, List.cons_append]
  exact decode_of_taken hc (takePayload_append seed rest)

theorem decode_encode (i : Instr) (rest : List Word) (hw : i.WellFormed) : decode (encode i ++ rest) = .command i rest := by
  cases i with
  | initf seed => exact decode_encode_initInstr true hw rest
  | inits seed => exact decode_encode_initInstr false hw rest
  | next => exact decode_of_next (by decide) rest

theorem eq_encode_of_decode (hd : decode ws = .command i rest) : i.WellFormed ∧ ws = encode i ++ rest := by
  cases ws with
  | nil => cases hd
  | cons h ws =>
    obtain ⟨-, e⟩ | ⟨hc, e⟩ | ⟨full, seed, rest', hc, rfl, e⟩ | ⟨_, _, -, -, e⟩ := decode_cons_cases h ws
    · cases e.symm.trans hd
    · cases e.symm.trans hd
      exact ⟨by decide, by rw [classify_eq_next hc]; rfl⟩
    · cases e.symm.trans hd
      obtain ⟨hh, hlen⟩ := classify_eq_init hc
      exact ⟨wellFormed_initInstr.mpr hlen, by rw [encode_initInstr, ← hh, List.cons_append]⟩
    · cases e.symm.trans hd

theorem decode_cons_eq_illegal : decode (h :: ws) = .illegal h ws ↔ classify h = .illegal := by
  refine ⟨fun hd => ?_, fun hc => decode_of_illegal hc ws⟩
  obtain ⟨hc, -⟩ | ⟨-, e⟩ | ⟨_, _, _, -, -, e⟩ | ⟨_, _, -, -, e⟩ := decode_cons_cases h ws
  · exact hc
  · cases e.symm.trans hd
  · cases e.symm.trans hd
  · cases e.symm.trans hd

/-- The illegal headers as the listed sets of R55, in arithmetic. -/
theorem classify_eq_illegal_iff_toNat : classify h = .illegal ↔
    h.toNat / 2 ^ 24 = 0 ∨ 3 ≤ h.toNat / 2 ^ 24 ∨ (h.toNat / 2 ^ 24 = 1 ∧ h.toNat / 2 ^ 17 % 2 ^ 7 ≠ 0) ∨
      (h.toNat / 2 ^ 24 = 2 ∧ h.toNat % 2 ^ 24 ≠ 0) := by
  have hnext : h = nextHeader ↔ h.toNat = 2 * 2 ^ 24 := by rw [← BitVec.toNat_inj]; rfl
  rw [classify_eq_illegal, ← BitVec.toNat_inj, ← BitVec.toNat_inj, opField_toNat, zField_toNat, ne_eq, hnext,
    show (0x01#8).toNat = 1 from rfl, show (0#7).toNat = 0 from rfl]
  omega

/-- Bits 31:17 of an `INIT` header, read as one number, are 128: `op` = 1 and `z` = 0 (R49, R50). -/
theorem classify_of_high_bits (hh : h.toNat / 2 ^ 17 = 128) : classify h = .init (passFlag h) (h.toNat % 2 ^ 16) := by
  have hop : opField h = 0x01#8 := BitVec.eq_of_toNat_eq (by rw [opField_toNat, show (0x01#8).toNat = 1 from rfl]; omega)
  have hz : zField h = 0#7 := BitVec.eq_of_toNat_eq (by rw [zField_toNat, hh]; rfl)
  rw [classify_of_init hop hz, lenField_toNat]

/-- Settles O1: the fields of an encoded header are read back, then the payload is taken exactly. -/
theorem decodeOfEncodeIsTheCommand : Obligations.DecodeOfEncodeIsTheCommand := decode_encode

/-- Settles O2: every bit of a legal header is fixed or is in the pass flag or `len`. -/
theorem encodeOfDecodedIsTheStream : Obligations.EncodeOfDecodedIsTheStream := fun _ _ _ => eq_encode_of_decode

/-- Settles O5, by running the decoder. -/
theorem writtenOutWordsDecode : Obligations.WrittenOutWordsDecode := by
  unfold Obligations.WrittenOutWordsDecode
  decide

end Sys2Proof

/-! # What a step makes of the front of the command channel (spec/30_encoding.md R52 to R57) -/

namespace Sys2Proof.Machine

variable {s t : State}

/-- Settles O3: R55's sets are `classify`'s last case, and such a header is taken alone. -/
theorem illegalHeadersFaultAndTakeOneWord : Obligations.IllegalHeadersFaultAndTakeOneWord := by
  refine ⟨fun h ws => decode_cons_eq_illegal.trans classify_eq_illegal_iff_toNat, fun s h rest hp hcmd hill => ?_, by decide, by decide⟩
  have hd : decode s.commands = .illegal h rest := by
    rw [hcmd, decode_of_illegal (classify_eq_illegal_iff_toNat.mpr hill)]
  exact step_illegal s hp hd

/-- Settles O4: in both cases the decoder answers `waiting`. -/
theorem incompleteCommandWaits : Obligations.IncompleteCommandWaits := by
  refine fun s hp => ⟨fun hcmd => step_waiting s hp ?_, fun h ws hcmd hh hlen => step_waiting s hp ?_⟩
  · rw [hcmd, decode]
  · rw [hcmd, decode_of_short (classify_of_high_bits hh) hlen]

/-- Settles O6: `setCommands` is the state with the words taken. -/
theorem stepRunsTheDecodedCommand : Obligations.StepRunsTheDecodedCommand := fun s _ _ => step_command s

/-- An `INIT` answers once, by the length of its seed, and takes no more words (R54, R91). -/
theorem initCommand_channels (full : Bool) (seed : List Word) (s : State) :
    (initCommand full seed s).commands = s.commands ∧ (initCommand full seed s).responses =
      s.responses ++ [if 256 < seed.length then ⟨.err, 2#32⟩ else ⟨.ok, 0#32⟩] := by
  obtain ⟨h, e⟩ | ⟨h, e⟩ := initCommand_cases s full seed
  · simp [e, h, FaultCause.code]
  · simp [e, Nat.not_lt.mpr h]

/-- A `NEXT` that does not stop answers once, with a fault or with the word at the new cursor, and takes no more words (R54, R96, R97). -/
theorem execNext_channels (h : execNext s = .next t) : t.commands = s.commands ∧
    (s.valid = false → t.responses = s.responses ++ [⟨.err, 3#32⟩]) ∧
    (s.valid = true → ∃ hlt : t.cursor.toNat < 256, t.responses = s.responses ++ [⟨.ok, t.results[t.cursor.toNat]⟩]) := by
  obtain ⟨hv, e⟩ | ⟨hlt, hv, e⟩ | ⟨-, -, e⟩ := execNext_cases s
  · cases e.symm.trans h
    simp [hv, FaultCause.code]
  · cases e.symm.trans h
    exact ⟨refill_commands s, by simp [hv], fun _ => ⟨hlt, by simp⟩⟩
  · cases e.symm.trans h

/-- Settles O12: one lemma for an illegal header, one for the two `INIT`s, one for `NEXT`. -/
theorem everyCommandGivesOneResponse : Obligations.EveryCommandGivesOneResponse := by
  refine fun s t hp hstep => ⟨fun h rest hd => ?_, fun seed rest hd => ?_, fun rest hd => ?_⟩
  · cases (step_illegal s hp hd).symm.trans hstep
    exact ⟨rfl, rfl⟩
  · obtain hd | hd := hd
    · cases (step_command s hp hd).symm.trans hstep
      exact initCommand_channels true seed (s.setCommands rest)
    · cases (step_command s hp hd).symm.trans hstep
      exact initCommand_channels false seed (s.setCommands rest)
  · exact execNext_channels ((step_command s hp hd).symm.trans hstep)

end Sys2Proof.Machine

/-! # The word operations and the state mixer (spec/40_arith_and_mixer.md R66 to R72) -/

namespace Sys2Proof.Machine

variable (x y : Word) (k : Nat)

theorem add32_toNat : (add32 x y).toNat = (x.toNat + y.toNat) % 2 ^ 32 := BitVec.toNat_add x y

theorem xor32_getLsbD : (xor32 x y).getLsbD k = (x.getLsbD k != y.getLsbD k) := BitVec.getLsbD_xor

theorem shl32_toNat : (shl32 x k).toNat = x.toNat * 2 ^ k % 2 ^ 32 := by
  rw [shl32, BitVec.toNat_shiftLeft, Nat.shiftLeft_eq]

theorem shr32_toNat : (shr32 x k).toNat = x.toNat / 2 ^ k := by
  rw [shr32, BitVec.toNat_ushiftRight, Nat.shiftRight_eq_div_pow]

/-- Settles O39: each operation is the `BitVec` operation, and the corner values are computed. -/
theorem wordOperationsWrapModulo32Bits : Obligations.WordOperationsWrapModulo32Bits :=
  ⟨fun x y z => ⟨add32_toNat x y, BitVec.add_comm x y, BitVec.add_assoc x y z, BitVec.add_zero x⟩, by decide, by decide,
    fun x y k => ⟨xor32_getLsbD x y k, BitVec.xor_self, BitVec.xor_zero⟩, fun x k _ _ => ⟨shl32_toNat x k, shr32_toNat x k⟩,
    by decide, by decide⟩

/-- The working scalars given in rotated order: entry `j` of `v` is scalar `(t + j) mod 8`, for `t` in 0..8. -/
def scalarsFrom (t : Nat) (v : Scalars) : Scalars :=
  #v[scalar v (8 - t), scalar v (9 - t), scalar v (10 - t), scalar v (11 - t), scalar v (12 - t), scalar v (13 - t), scalar v (14 - t),
    scalar v (15 - t)]

/-- Counted from its own scalar on, every sub-step makes the same three updates, of entries 0, 3 and 1; only its shift is its own.
The result is counted from the scalar of the next sub-step (R72). -/
theorem mixStep_scalarsFrom {t : Nat} (ht : t < 8) (x0 x1 x2 x3 x4 x5 x6 x7 : Word) :
    mixStep t (scalarsFrom t #v[x0, x1, x2, x3, x4, x5, x6, x7]) =
      scalarsFrom (t + 1) #v[x1 + x2, x2, x3 + (x0 ^^^ mixShift t x1), x4, x5, x6, x7, x0 ^^^ mixShift t x1] := by
  interval_cases t <;> rfl

/-- Settles O38: the eight sub-steps one after another; after the eighth the order is again that of scalar 0. -/
theorem mixIsTheTwentyFourUpdates : Obligations.MixIsTheTwentyFourUpdates := by
  intro s0 s1 s2 s3 s4 s5 s6 s7
  have start : #v[s0, s1, s2, s3, s4, s5, s6, s7] = scalarsFrom 0 #v[s0, s1, s2, s3, s4, s5, s6, s7] := rfl
  rw [mix8_eq, start]
  simp only [mixStep_scalarsFrom, Nat.reduceLT, Nat.reduceAdd]
  rfl

end Sys2Proof.Machine

/-! # The seed in `results` (spec/41_init.md R81, R87) -/

namespace Sys2Proof.Machine

theorem seedWord_of_lt {seed : List Word} {k : Nat} (h : k < seed.length) : seedWord seed k = seed[k] := by
  rw [seedWord, List.getD_eq_getElem _ _ h]

theorem seedWord_of_ge {seed : List Word} {k : Nat} (h : seed.length ≤ k) : seedWord seed k = 0#32 := by
  rw [seedWord, List.getD_eq_default _ _ h]

/-- The zero fill makes trailing zero words unreadable (R87). -/
theorem seedWord_append_zeros (seed : List Word) (n k : Nat) : seedWord (seed ++ List.replicate n 0#32) k = seedWord seed k := by
  obtain h | h := Nat.lt_or_ge k seed.length
  · rw [seedWord, seedWord, List.getD_append _ _ _ _ h]
  · rw [seedWord_of_ge h, seedWord, List.getD_append_right _ _ _ _ h, List.getD_eq_getElem?_getD, List.getElem?_replicate]
    split
    · rfl
    · rfl

theorem seedCopy_append_zeros (seed : List Word) (n : Nat) (s : State) :
    seedCopy (seed ++ List.replicate n 0#32) s = seedCopy seed s := by
  simp only [seedCopy, seedWord_append_zeros]

/-- A state that agrees with `s` in all that no write of `results` touches is `s` with another block (R30). -/
theorem eq_of_results_frame {s t : State} (h : ∀ {τ : Type} (proj : State → τ),
    (∀ s i v, proj (State.writeResults s i v) = proj s) → proj t = proj s) : t = { s with results := t.results } :=
  congrArg (fun u : State => { u with results := t.results }) (h (fun u => { u with results := s.results }) fun _ _ _ => rfl)

/-- Settles O17: the copy reads `seedWord`, and writes of `results` are its only writes. -/
theorem seedCopyFillsResults : Obligations.SeedCopyFillsResults := by
  intro s seed _
  refine ⟨fun k hk => ?_, eq_of_results_frame fun proj h => seedCopy_frame s proj h seed⟩
  have hcopy := seedCopy_readResults seed s (directIndex k)
  simp only [State.readResults, directIndex_toNat hk] at hcopy
  rw [hcopy]
  by_cases h : k < seed.length
  · rw [dif_pos h, seedWord_of_lt h]
  · rw [dif_neg h, seedWord_of_ge (Nat.le_of_not_lt h)]

end Sys2Proof.Machine

/-! # The sweeps as chains of scalars (spec/41_init.md R83 to R86) -/

namespace Sys2Proof.Machine

variable {s t : State} {g n : Nat}

/-- A state that agrees with `s` in all that no write of `memory` touches is `s` with another pool (R30). -/
theorem eq_of_memory_frame (h : ∀ {τ : Type} (proj : State → τ),
    (∀ s i v, proj (State.writeMemory s i v) = proj s) → proj t = proj s) : t = { s with memory := t.memory } :=
  congrArg (fun u : State => { u with memory := t.memory }) (h (fun u => { u with memory := s.memory }) fun _ _ _ => rfl)

/-- The chunks tile the array: a chunk's store is seen at the chunk's own indices and at no other chunk's (R84). -/
theorem storeChunk_readMemory_chunkIndex (hg : g < 32) (hn : n < 32) (sc : Scalars) (s : State) (t : Fin 8) :
    (storeChunk n sc s).readMemory (chunkIndex g t) = if g = n then sc[t] else s.readMemory (chunkIndex g t) := by
  have ht : t.val < 8 := t.isLt
  have hk : (chunkIndex g t).toNat = 8 * g + t := chunkIndex_toNat hg ht
  rw [storeChunk_readMemory s hn]
  by_cases e : g = n
  · subst e
    simp [hk, ht]
  · rw [if_neg e, dif_neg (by omega)]

/-- A sweep that stores in every chunk the scalars it goes on with holds those scalars behind it, and the old words ahead of it (R84, R85). -/
theorem sweep_readMemory {chunk : Nat → Scalars × State → Scalars × State}
    (hchunk : ∀ g w, (chunk g w).2 = storeChunk g (chunk g w).1 w.2) (w : Scalars × State) (hn : n ≤ 32) (hg : g < 32) (t : Fin 8) : (forUp chunk n w).2.readMemory (chunkIndex g t) =
      if g < n then (forUp chunk (g + 1) w).1[t] else w.2.readMemory (chunkIndex g t) := by
  induction n with
  | zero => simp
  | succ n ih =>
    rw [forUp_succ, hchunk, storeChunk_readMemory_chunkIndex hg hn, ih (by omega)]
    by_cases e : g = n
    · rw [if_pos e, if_pos (by omega), e, forUp_succ]
    · have hlt : g < n + 1 ↔ g < n := by omega
      rw [if_neg e, if_congr hlt rfl rfl]

/-- The word that chunk `g` of the first sweep adds to scalar `t`: the seed's if the pass is seeded, else nothing (R84, R86). -/
def firstFold (full : Bool) (s : State) (g : Nat) (t : Fin 8) : Word := if full then s.readResults (chunkIndex g t) else 0#32

theorem firstSweepChunk_fst (full : Bool) (g : Nat) (w : Scalars × State) :
    (firstSweepChunk full g w).1 = mix8 (Vector.ofFn fun t : Fin 8 => w.1[t] + firstFold full w.2 g t) := by
  cases full with
  | true => exact congrArg mix8 (foldIn_eq _ _)
  | false => simp [firstSweepChunk, firstFold]

theorem secondSweepChunk_fst (g : Nat) (w : Scalars × State) :
    (secondSweepChunk g w).1 = mix8 (Vector.ofFn fun t : Fin 8 => w.1[t] + w.2.readMemory (chunkIndex g t)) :=
  congrArg mix8 (foldIn_eq _ _)

theorem firstSweep_readResults (full : Bool) (n : Nat) (w : Scalars × State) (k : Index) :
    (firstSweep full n w).2.readResults k = w.2.readResults k :=
  firstSweep_frame (State.readResults · k) (fun _ _ _ => rfl) full n w

/-- The first sweep's scalars are one chain that folds the words of the block (R84, R86). -/
theorem firstSweep_fst (full : Bool) (n : Nat) (sc : Scalars) (s : State) :
    (firstSweep full n (sc, s)).1 = sweepScalars sc (firstFold full s) n := by
  induction n with
  | zero => simp
  | succ n ih =>
    rw [firstSweep_succ, firstSweepChunk_fst, sweepScalars_succ, ih]
    simp only [firstFold, firstSweep_readResults]

/-- What the first sweep leaves at element `t` of chunk `g` (R84). -/
theorem firstSweep_readMemory (full : Bool) (sc : Scalars) (s : State) (hg : g < 32) (t : Fin 8) :
    (firstSweep full 32 (sc, s)).2.readMemory (chunkIndex g t) = (sweepScalars sc (firstFold full s) (g + 1))[t] := by
  rw [← firstSweep_fst]
  exact (sweep_readMemory (firstSweepChunk_snd full) (sc, s) (Nat.le_refl 32) hg t).trans (if_pos hg)

/-- The second sweep's scalars are one chain that folds the words the pool held before it: no chunk folds what an earlier one stored (R85). -/
theorem secondSweep_fst (sc : Scalars) (s : State) (hn : n ≤ 32) :
    (secondSweep n (sc, s)).1 = sweepScalars sc (fun g t => s.readMemory (chunkIndex g t)) n := by
  induction n with
  | zero => simp
  | succ n ih =>
    have ahead (t : Fin 8) : (secondSweep n (sc, s)).2.readMemory (chunkIndex n t) = s.readMemory (chunkIndex n t) :=
      (sweep_readMemory secondSweepChunk_snd (sc, s) (by omega) hn t).trans (if_neg (Nat.lt_irrefl n))
    rw [secondSweep_succ, secondSweepChunk_fst, sweepScalars_succ, ih (by omega)]
    simp only [ahead]

/-- What the second sweep leaves at element `t` of chunk `g` (R85). -/
theorem secondSweep_readMemory (sc : Scalars) (s : State) (hg : g < 32) (t : Fin 8) :
    (secondSweep 32 (sc, s)).2.readMemory (chunkIndex g t) =
      (sweepScalars sc (fun g t => s.readMemory (chunkIndex g t)) (g + 1))[t] := by
  rw [← secondSweep_fst sc s hg]
  exact (sweep_readMemory secondSweepChunk_snd (sc, s) (Nat.le_refl 32) hg t).trans (if_pos hg)

/-- A chain of scalars up to chunk `n` depends on the words of the chunks before `n` alone. -/
theorem sweepScalars_congr (start : Scalars) {word word' : Nat → Fin 8 → Word} (h : ∀ g < n, word g = word' g) :
    sweepScalars start word n = sweepScalars start word' n := by
  induction n with
  | zero => rfl
  | succ n ih => rw [sweepScalars_succ, sweepScalars_succ, ih fun g hg => h g (by omega), h n (Nat.lt_succ_self n)]

theorem preMix_eq_four_mixes : preMix = mix8 (mix8 (mix8 (mix8 (Vector.replicate 8 0x9e3779b9#32)))) := by
  simp only [preMix, forUp_succ, forUp_zero]

/-- Settles O18: the scalars by `firstSweep_fst`, the words stored by `firstSweep_readMemory`. -/
theorem firstSweepChainsTheChunks : Obligations.FirstSweepChainsTheChunks := by
  refine ⟨preMix_eq_four_mixes, by decide +kernel, fun s full => ⟨?_, fun g _ => ?_, fun g t hg => ?_, ?_⟩⟩
  · simp only [firstSweep_zero]
  · simp only [firstSweep_fst, sweepScalars_succ]
    cases full with
    | true => rfl
    | false => simp [firstFold]
  · simp only [firstSweep_fst]
    exact firstSweep_readMemory full preMix s hg t
  · exact eq_of_memory_frame fun proj h => firstSweep_frame proj h full 32 (preMix, s)

/-- Settles O19: the scalars by `secondSweep_fst`, the words stored by `secondSweep_readMemory`. -/
theorem secondSweepFoldsTheFirst : Obligations.SecondSweepFoldsTheFirst := by
  refine fun s sc0 => ⟨?_, fun g hg => ?_, fun g t hg => ?_, ?_⟩
  · simp only [secondSweep_zero]
  · simp only [secondSweep_fst sc0 s (show g + 1 ≤ 32 from hg), secondSweep_fst sc0 s hg.le, sweepScalars_succ]
    rfl
  · simp only [secondSweep_fst sc0 s (show g + 1 ≤ 32 from hg)]
    exact secondSweep_readMemory sc0 s hg t
  · exact eq_of_memory_frame fun proj h => secondSweep_frame proj h 32 (sc0, s)

theorem mixPool_true (s : State) : mixPool true s = (secondSweep 32 (firstSweep true 32 (preMix, s))).2 := by
  simp only [mixPool, if_true]

theorem mixPool_false (s : State) : mixPool false s = (firstSweep false 32 (preMix, s)).2 := by
  simp only [mixPool, Bool.false_eq_true, if_false]

/-- Element `t` of chunk `g` of the pool after two sweeps (R85). -/
theorem mixPool_true_readMemory (s : State) (hg : g < 32) (t : Fin 8) :
    let first := sweepScalars preMix (firstFold true s)
    (mixPool true s).readMemory (chunkIndex g t) = (sweepScalars (first 32) (fun g t => (first (g + 1))[t]) (g + 1))[t] := by
  intro first
  have hstart : (firstSweep true 32 (preMix, s)).1 = first 32 := firstSweep_fst true 32 preMix s
  have hpool (h : Nat) (hh : h < g + 1) :
      (fun t : Fin 8 => (firstSweep true 32 (preMix, s)).2.readMemory (chunkIndex h t)) = fun t => (first (h + 1))[t] :=
    funext fun t => firstSweep_readMemory true preMix s (by omega) t
  rw [mixPool_true, secondSweep_readMemory _ _ hg t, hstart, sweepScalars_congr _ hpool]

/-- Element `t` of chunk `g` of the pool after the one unseeded sweep: a chain that folds nothing (R86). -/
theorem mixPool_false_readMemory (s : State) (hg : g < 32) (t : Fin 8) :
    (mixPool false s).readMemory (chunkIndex g t) = (sweepScalars preMix (fun _ _ => 0#32) (g + 1))[t] := by
  rw [mixPool_false]
  exact firstSweep_readMemory false preMix s hg t

/-- Settles O41: the two pools word by word, and the frame of `mixPool`. -/
theorem poolIsOneChainOfScalars : Obligations.PoolIsOneChainOfScalars := fun s =>
  ⟨fun _ t hg => mixPool_true_readMemory s hg t, fun _ t hg => mixPool_false_readMemory s hg t,
    fun full => eq_of_memory_frame fun proj h => mixPool_frame s proj h full⟩

end Sys2Proof.Machine

/-! # The generator as a function of the mixed pool (spec/41_init.md R82 to R90) -/

namespace Sys2Proof.Machine

variable {s t u : State} {full full' : Bool} {seed seed' : List Word}

/-- The chunks cover the array: pools that agree in every chunk are equal (R84). -/
theorem memory_eq_of_chunks (h : ∀ g < 32, ∀ j : Fin 8, s.readMemory (chunkIndex g j) = t.readMemory (chunkIndex g j)) :
    s.memory = t.memory := by
  refine block_ext fun k => ?_
  have hk : k = chunkIndex (k.toNat / 8) (k.toNat % 8) :=
    BitVec.eq_of_toNat_eq (by rw [chunkIndex_toNat (by omega) (Nat.mod_lt _ (by decide))]; omega)
  have hchunk := h (k.toNat / 8) (by omega) ⟨k.toNat % 8, Nat.mod_lt _ (by decide)⟩
  rw [← hk] at hchunk
  exact hchunk

/-- The pool of `INITS` is the same from every state: its sweep folds nothing (R86). -/
theorem mixPool_false_memory (s t : State) : (mixPool false s).memory = (mixPool false t).memory :=
  memory_eq_of_chunks fun _ hg j => (mixPool_false_readMemory s hg j).trans (mixPool_false_readMemory t hg j).symm

/-- An initialisation is one `REGEN` from zero accumulators and the mixed pool, in whatever state those stand (R82, R88). -/
theorem initGenerator_fields_eq_regen (hm : u.memory = (mixPool full (seedCopy seed s)).memory) (ha : u.a = 0#32) (hb : u.b = 0#32)
    (hc : u.c = 0#32) :
    (initGenerator full seed s).memory = (regen u).memory ∧ (initGenerator full seed s).results = (regen u).results ∧
      (initGenerator full seed s).a = (regen u).a ∧ (initGenerator full seed s).b = (regen u).b ∧
      (initGenerator full seed s).c = (regen u).c := by
  have hpool : (mixPool full (zeroAccumulators (seedCopy seed s))).memory = u.memory :=
    (mixPool_memory_congr full (s := zeroAccumulators (seedCopy seed s)) (t := seedCopy seed s) rfl).trans hm.symm
  obtain ⟨ha', hb', hc'⟩ := mixPool_zeroAccumulators full (seedCopy seed s)
  rw [initGenerator_eq]
  exact regen_congr hpool (ha'.trans ha.symm) (hb'.trans hb.symm) (hc'.trans hc.symm)

/-- Settles O16: `initGenerator_fields_eq_regen` for the command, and the two cases of `mixPool`. -/
theorem initEndsInOneRegenFromZero : Obligations.InitEndsInOneRegenFromZero := by
  refine ⟨fun s u seed full hlen hm ha hb hc => ?_, mixPool_true, mixPool_false⟩
  have hexec : exec (if full then .initf seed else .inits seed) s = .next (initCommand full seed s) := by
    cases full with
    | true => exact exec_initf seed s
    | false => exact exec_inits seed s
  exact ⟨(initGenerator full seed s).respond ⟨.ok, 0#32⟩, by rw [hexec, initCommand_of_le full hlen],
    initGenerator_fields_eq_regen hm ha hb hc⟩

/-- Settles O20: the response is no part of the generator. -/
theorem initDependsOnNoPriorState : Obligations.InitDependsOnNoPriorState := by
  intro s s' seed i hi hlen
  obtain ⟨full, hexec⟩ := exec_init hi
  exact ⟨(initGenerator full seed s).respond ⟨.ok, 0#32⟩, (initGenerator full seed s').respond ⟨.ok, 0#32⟩,
    by rw [hexec, initCommand_of_le full hlen], by rw [hexec, initCommand_of_le full hlen], initGenerator_sameGenerator full seed s s'⟩

/-- The generator, the inputs and the responses are all of the state. -/
theorem eq_of_sameGenerator (hgen : SameGenerator s t) (hin : SameInputs s t) (hresp : s.responses = t.responses) : s = t := by
  obtain ⟨hm, hr, ha, hb, hc, hcur, hv⟩ := hgen
  obtain ⟨hcmd, hp, hcount⟩ := hin
  cases s
  cases t
  simp_all

/-- From one state, two initialisations that mix the same pool end in the same state. -/
theorem initGenerator_eq_of_pool
    (h : (mixPool full (seedCopy seed s)).memory = (mixPool full' (seedCopy seed' s)).memory) :
    initGenerator full seed s = initGenerator full' seed' s := by
  let u := zeroAccumulators (mixPool full (seedCopy seed s))
  obtain ⟨hm, hr, ha, hb, hc⟩ := initGenerator_fields_eq_regen (u := u) rfl rfl rfl rfl
  obtain ⟨hm', hr', ha', hb', hc'⟩ := initGenerator_fields_eq_regen (u := u) h rfl rfl rfl
  refine eq_of_sameGenerator ?_ ?_ ?_
  · simp [SameGenerator, hm, hr, ha, hb, hc, hm', hr', ha', hb', hc']
  · simp [SameInputs]
  · simp

/-- Over a block of zeros a seeded sweep is an unseeded one (R86). -/
theorem firstSweep_of_zero_results (h : ∀ k : Index, s.readResults k = 0#32) (n : Nat) (sc : Scalars) :
    firstSweep false n (sc, s) = firstSweep true n (sc, s) := by
  induction n with
  | zero => simp
  | succ n ih =>
    have hfst : (firstSweepChunk false n (firstSweep true n (sc, s))).1 = (firstSweepChunk true n (firstSweep true n (sc, s))).1 := by
      simp only [firstSweepChunk_fst, firstFold, firstSweep_readResults, h, ite_self]
    rw [firstSweep_succ, firstSweep_succ, ih]
    exact Prod.ext hfst (by rw [firstSweepChunk_snd, firstSweepChunk_snd, hfst])

/-- Settles O21: one pool for every operand of `INITS`, and an unseeded sweep is a seeded one over zeros. -/
theorem initsIgnoresItsOperands : Obligations.InitsIgnoresItsOperands := by
  refine ⟨fun s seed seed' hlen hlen' => ?_, fun s h => congrArg Prod.snd (firstSweep_of_zero_results h 32 preMix)⟩
  rw [exec_inits, exec_inits, initCommand_of_le false hlen, initCommand_of_le false hlen',
    initGenerator_eq_of_pool (mixPool_false_memory (seedCopy seed s) (seedCopy seed' s))]

/-- Settles O22: the seed copy is the same. -/
theorem trailingZeroSeedWordsDoNotMatter : Obligations.TrailingZeroSeedWordsDoNotMatter := by
  intro s seed n hlen
  have hlen' : (seed ++ List.replicate n 0#32).length ≤ 256 := by simpa using hlen
  rw [exec_initf, exec_initf, initCommand_of_le true hlen', initCommand_of_le true (by omega), initGenerator_eq, initGenerator_eq,
    seedCopy_append_zeros]

end Sys2Proof.Machine

/-! # The responses as a function of the generator (spec/41_init.md R92) -/

namespace Sys2Proof.Machine

variable {s t : State}

/-- From a generator with a legal cursor `NEXT` answers the same word in every state that holds it, and leaves one generator in all (R97). -/
theorem execNext_sameGenerator (hv : s.valid = true) (hc : s.cursor.toNat ≤ 256) :
    ∃ (r : Response) (u : State), execNext s = .next u ∧
      ∀ t, SameGenerator s t → ∃ u', execNext t = .next u' ∧ SameGenerator u u' ∧ u'.responses = t.responses ++ [r] := by
  refine ⟨⟨.ok, (refill s).results[((refill s).cursor - 1#9).toNat]'(refill_cursor_pred_lt hc)⟩, _, execNext_of_legal hv hc, fun t h => ?_⟩
  obtain ⟨-, -, -, -, -, hcur, hvt⟩ := id h
  obtain ⟨hm, hr, ha, hb, hcc, hcur', hv'⟩ := refill_sameGenerator h
  refine ⟨_, execNext_of_legal (hvt ▸ hv) (hcur ▸ hc), ?_, ?_⟩
  · simp [SameGenerator, hm, hr, ha, hb, hcc, hcur', hvt]
  · simp [hr, hcur']

/-- Any number of draws from one generator gives one sequence of responses (R92). -/
theorem nextTimes_sameGenerator (m : Nat) (hv : s.valid = true) (hs : GeneratorInv s) :
    ∃ outs : List Response, outs.length = m ∧
      ∀ t, SameGenerator s t → ∃ u, nextTimes m t = .next u ∧ u.responses = t.responses ++ outs := by
  induction m generalizing s with
  | zero => exact ⟨[], rfl, fun t _ => ⟨t, rfl, (List.append_nil _).symm⟩⟩
  | succ m ih =>
    obtain ⟨hc, -⟩ := hs hv
    obtain ⟨r, s', hexec, hsame⟩ := execNext_sameGenerator hv hc
    obtain ⟨outs, hlen, houts⟩ := ih ((execNext_valid hexec).trans hv) (execNext_generatorInv hs hexec)
    refine ⟨r :: outs, by rw [List.length_cons, hlen], fun t ht => ?_⟩
    obtain ⟨t', hexec', ht', hresp'⟩ := hsame t ht
    obtain ⟨u, hu, hresp⟩ := houts t' ht'
    exact ⟨u, (nextTimes_succ_of_exec m hexec').trans hu, by rw [hresp, hresp', List.append_assoc, List.singleton_append]⟩

/-- Settles O29: the responses are those of the generator that the initialisation makes from the reset state, which is that of every state. -/
theorem sameSeedAndPassCountSameOutputs : Obligations.SameSeedAndPassCountSameOutputs := by
  intro seed i m hi hlen
  obtain ⟨full, hexec⟩ := exec_init hi
  obtain ⟨outs, hm, houts⟩ := nextTimes_sameGenerator m (initGenerator_valid State.reset full seed)
    (initGenerator_generatorInv full seed State.reset)
  refine ⟨outs, hm, fun s => ?_⟩
  have hsame : SameGenerator (initGenerator full seed State.reset) ((initGenerator full seed s).respond ⟨.ok, 0#32⟩) :=
    initGenerator_sameGenerator full seed State.reset s
  obtain ⟨u, hu, hresp⟩ := houts _ hsame
  refine ⟨_, u, by rw [hexec, initCommand_of_le full hlen], hu, ?_⟩
  rw [hresp, State.respond_responses, initGenerator_responses, List.append_assoc, List.singleton_append]

end Sys2Proof.Machine

/-! # The draw command (spec/42_next.md R95 to R97) -/

namespace Sys2Proof.Machine

variable {s : State}

/-- With no value left `NEXT` draws from the block that one `REGEN` makes (R97 (1)). -/
theorem execNext_of_cursor_zero (hv : s.valid = true) (hc : s.cursor = 0#9) : execNext s = execNext ((regen s).setCursor 256#9) := by
  have hfull : refill ((regen s).setCursor 256#9) = (regen s).setCursor 256#9 := refill_of_ne _ (by simp)
  simp [execNext, hv, refill_of_zero s hc, hfull]

/-- Settles O23: the fault by the test of `valid`, the word by the refilled block. -/
theorem nextFaultsExactlyWhenUninitialised : Obligations.NextFaultsExactlyWhenUninitialised := by
  refine ⟨fun s hv => execNext_of_not_valid hv, fun s hv hc => ?_⟩
  exact ⟨_, _, execNext_of_legal hv hc, congrArg (· ++ [_]) (refill_responses s), (refill_valid s).trans hv⟩

/-- Settles O24: a draw at cursor 0 is the draw at cursor 256 after a `REGEN`. -/
theorem nextDrawsBackwardAndRefillsLazily : Obligations.NextDrawsBackwardAndRefillsLazily := by
  refine ⟨fun s n hn hv hc => ?_, fun s hv hc => ?_⟩
  · rw [exec_next, execNext_of_cursor_succ hv hn hc]
    simp only [State.readResults, BitVec.toNat_ofNat, Nat.reducePow, Nat.mod_eq_of_lt hn]
  · have hv' : ((regen s).setCursor 256#9).valid = true := (regen_valid s).trans hv
    rw [exec_next, execNext_of_cursor_zero hv hc, execNext_of_cursor_succ hv' (n := 255) (by decide) rfl, State.setCursor_responses,
      regen_responses]
    rfl

end Sys2Proof.Machine

/-! # Draws across blocks (spec/42_next.md R98, R99) -/

namespace Sys2Proof.Machine

variable {s t : State}

@[simp] theorem regenTimes_zero (s : State) : regenTimes 0 s = s := rfl

theorem regenTimes_succ (q : Nat) (s : State) : regenTimes (q + 1) s = regen (regenTimes q s) := rfl

@[simp] theorem regenTimes_valid (q : Nat) (s : State) : (regenTimes q s).valid = s.valid := by
  induction q with
  | zero => rfl
  | succ q ih => rw [regenTimes_succ, regen_valid, ih]

/-- Every `REGEN` counts itself in `c`, modulo 2^32 (R106). -/
theorem regenTimes_c (q : Nat) (s : State) : (regenTimes q s).c = s.c + BitVec.ofNat 32 q := by
  induction q with
  | zero => simp
  | succ q ih => rw [regenTimes_succ, regen_c, ih, BitVec.ofNat_add, BitVec.add_assoc]

/-- `REGEN` neither reads nor writes the cursor and the response channel (R105, R113). -/
theorem regen_cursor_responses (s : State) (cursor : BitVec 9) (responses : List Response) :
    regen { s with cursor := cursor, responses := responses } = { regen s with cursor := cursor, responses := responses } := by
  obtain ⟨hm, hr, ha, hb, hc⟩ := regen_congr (s := { s with cursor := cursor, responses := responses }) (t := s) rfl rfl rfl rfl
  refine eq_of_sameGenerator ⟨hm, hr, ha, hb, hc, regen_cursor _, ?_⟩ ?_ (regen_responses _)
  · simp
  · simp [SameInputs]

/-- The last of `m + 1` draws runs from the state that the first `m` left. -/
theorem nextTimes_succ_eq_exec {m : Nat} (h : nextTimes m s = .next t) : nextTimes (m + 1) s = exec .next t := by
  induction m generalizing s with
  | zero =>
    cases h
    rw [nextTimes]
    cases exec .next t <;> rfl
  | succ m ih =>
    cases hexec : exec .next s with
    | next s' =>
      rw [nextTimes_succ_of_exec m hexec] at h
      rw [nextTimes_succ_of_exec (m + 1) hexec, ih h]
    | fault f => simp [nextTimes, hexec] at h
    | refused r => simp [nextTimes, hexec] at h

/-- What draw `k`, counted from 0, returns: the words of the successive blocks, each block from its last word down (R98). -/
def drawnResponse (s : State) (k : Nat) : Response :=
  ⟨.ok, (regenTimes (k / 256) s).readResults (BitVec.ofNat 8 (255 - k % 256))⟩

/-- The state in which `k` draws have returned and `n` words of block `q + 1` are left. -/
def drawState (s : State) (k q n : Nat) : State :=
  { regenTimes q s with cursor := BitVec.ofNat 9 n, responses := s.responses ++ (List.range k).map (drawnResponse s) }

@[simp] theorem drawState_valid (s : State) (k q n : Nat) : (drawState s k q n).valid = s.valid := regenTimes_valid q s

@[simp] theorem drawState_cursor (s : State) (k q n : Nat) : (drawState s k q n).cursor = BitVec.ofNat 9 n := rfl

@[simp] theorem drawState_c (s : State) (k q n : Nat) : (drawState s k q n).c = s.c + BitVec.ofNat 32 q := regenTimes_c q s

/-- A draw from block `q + 1` with all its words returned is a draw from the whole of the next block (R97 (1)). -/
theorem execNext_drawState_zero (hv : s.valid = true) (k q : Nat) :
    execNext (drawState s k q 0) = execNext (drawState s k (q + 1) 256) := by
  rw [execNext_of_cursor_zero (by rw [drawState_valid, hv]) rfl, drawState, regen_cursor_responses]
  rfl

/-- Draw `k` from its block, with the values before it returned (R97). -/
theorem execNext_drawState (hv : s.valid = true) (k : Nat) :
    execNext (drawState s k (k / 256) (256 - k % 256)) = .next (drawState s (k + 1) (k / 256) (255 - k % 256)) := by
  have hcur : (drawState s k (k / 256) (256 - k % 256)).cursor.toNat = 255 - k % 256 + 1 := by
    rw [drawState_cursor, BitVec.toNat_ofNat]
    omega
  rw [execNext_of_cursor_succ (by rw [drawState_valid, hv]) (by omega) hcur]
  simp only [drawState, List.range_succ, List.map_append, List.map_singleton, List.append_assoc]
  rfl

/-- With its block used up, draw `k + 1` is a draw from the whole next block; else the block goes on (R98). -/
theorem execNext_drawState_succ (hv : s.valid = true) (k : Nat) :
    execNext (drawState s (k + 1) (k / 256) (255 - k % 256)) =
      execNext (drawState s (k + 1) ((k + 1) / 256) (256 - (k + 1) % 256)) := by
  by_cases hlast : k % 256 = 255
  · have hblock : (k + 1) / 256 = k / 256 + 1 := by omega
    have hfirst : (k + 1) % 256 = 0 := by omega
    rw [hlast, hblock, hfirst]
    exact execNext_drawState_zero hv (k + 1) (k / 256)
  · have hblock : (k + 1) / 256 = k / 256 := by omega
    have hleft : 256 - (k + 1) % 256 = 255 - k % 256 := by omega
    rw [hblock, hleft]

/-- From a full block, any number of draws runs block by block, each backward (R98): the induction behind R98 and R99. -/
theorem nextTimes_succ_eq_drawState (hv : s.valid = true) (hc : s.cursor = 256#9) (k : Nat) :
    nextTimes (k + 1) s = .next (drawState s (k + 1) (k / 256) (255 - k % 256)) := by
  induction k with
  | zero =>
    have hs : drawState s 0 0 256 = s := by simp [drawState, ← hc]
    have hdraw := execNext_drawState hv 0
    rw [Nat.zero_div, Nat.zero_mod, Nat.sub_zero, hs] at hdraw
    exact nextTimes_succ_of_exec 0 hdraw
  | succ k ih => rw [nextTimes_succ_eq_exec ih, exec_next, execNext_drawState_succ hv, execNext_drawState hv]

/-- Settles O27: `nextTimes_succ_eq_drawState`, with `m` for `k + 1`. -/
theorem drawsRunBlockByBlockBackward : Obligations.DrawsRunBlockByBlockBackward := by
  intro s m hv hc hm
  obtain ⟨k, rfl⟩ := Nat.exists_eq_add_of_le' hm
  exact nextTimes_succ_eq_drawState hv hc k

/-- Settles O28: an initialisation leaves a full block and `c` = 1, and each further block adds 1. -/
theorem cursorAndCounterCountTheDraws : Obligations.CursorAndCounterCountTheDraws := by
  intro s seed i m hi hlen hm
  obtain ⟨full, hexec⟩ := exec_init hi
  obtain ⟨k, rfl⟩ := Nat.exists_eq_add_of_le' hm
  have hdraws := nextTimes_succ_eq_drawState (s := (initGenerator full seed s).respond ⟨.ok, 0#32⟩)
    (initGenerator_valid s full seed) (initGenerator_cursor s full seed) k
  refine ⟨_, _, by rw [hexec, initCommand_of_le full hlen], hdraws, ?_, ?_⟩
  · rw [drawState_cursor, BitVec.toNat_ofNat]
    omega
  · rw [drawState_c, State.respond_c, initGenerator_c, Nat.add_sub_cancel, BitVec.ofNat_add, BitVec.add_comm]

end Sys2Proof.Machine

/-! # One slot step, and what a whole `REGEN` writes (spec/43_regenerate.md R105 to R114) -/

namespace Sys2Proof.Machine

/-- All that the counter step does: `c` first, then `b` with the new `c` (R106). -/
theorem counterStep_eq (s : State) : counterStep s = { s with c := s.c + 1#32, b := s.b + (s.c + 1#32) } := rfl

/-- Settles O32: `counterStep_eq`, and the wrap of `c` at its last value. -/
theorem counterStepAdvancesCThenB : Obligations.CounterStepAdvancesCThenB := by
  refine ⟨counterStep_eq, fun s hc => ?_, fun _ => rfl⟩
  have hwrap : s.c + 1#32 = 0#32 := by
    rw [hc]
    decide
  rw [counterStep_eq, hwrap]
  exact ⟨rfl, BitVec.add_zero _⟩

/-- The first indirect index as arithmetic (R108). -/
theorem lookup_eq_ofNat (x : Word) : lookup x = BitVec.ofNat 8 (x.toNat / 4 % 256) := by
  apply BitVec.eq_of_toNat_eq
  rw [lookup, BitVec.extractLsb'_toNat, Nat.shiftRight_eq_div_pow, BitVec.toNat_ofNat, Nat.mod_mod]

/-- The second indirect index as arithmetic (R109). -/
theorem lookup2_eq_ofNat (y : Word) : lookup2 y = BitVec.ofNat 8 (y.toNat / 1024 % 256) := by
  apply BitVec.eq_of_toNat_eq
  rw [lookup2, BitVec.extractLsb'_toNat, Nat.shiftRight_eq_div_pow, BitVec.toNat_ofNat, Nat.mod_mod]

/-- The partner index as a number in range (R111). -/
theorem partner_eq_ofNat (i : Index) : partner i = BitVec.ofNat 8 ((i.toNat + 128) % 256) := by
  apply BitVec.eq_of_toNat_eq
  rw [partner_toNat, BitVec.toNat_ofNat, Nat.mod_mod]

/-- The partner of a slot lies in the other half (R111). -/
theorem partner_ne (i : Index) : partner i ≠ i := by
  intro h
  have hnat := partner_toNat i
  rw [h] at hnat
  omega

/-- The four shifts in fixed rotation (R110). -/
theorem slotShift_eq_ite (i : Index) (a : Word) : slotShift i a =
    if i.toNat % 4 = 0 then a <<< 13 else if i.toNat % 4 = 1 then a >>> 6 else if i.toNat % 4 = 2 then a <<< 2 else a >>> 16 := by
  obtain h | h | h | h : i.toNat % 4 = 0 ∨ i.toNat % 4 = 1 ∨ i.toNat % 4 = 2 ∨ i.toNat % 4 = 3 := by omega
  all_goals
    rw [slotShift, h]
    rfl

theorem slotShift_zero (i : Index) : slotShift i 0#32 = 0#32 := by simp [slotShift_eq_ite]

/-- The new `a`: the shifted word is folded in, then the partner's word is added (R107 (2)). -/
theorem slotA_eq (i : Index) (s : State) : slotA i s = (s.a ^^^ slotShift i s.a) + s.readMemory (partner i) := rfl

/-- The word stored: the first lookup reads the pool before the store (R107 (3)). -/
theorem slotY_eq (i : Index) (s : State) : slotY i s = s.readMemory (lookup (s.readMemory i)) + slotA i s + s.b := rfl

/-- The new `b`: the second lookup reads the pool after the store (R107 (4)). -/
theorem slotB_eq (i : Index) (s : State) : slotB i s =
    (if lookup2 (slotY i s) = i then slotY i s else s.readMemory (lookup2 (slotY i s))) + s.readMemory i := by
  rw [slotB, readMemory_writeMemory]
  rfl

/-- Settles O33: the values a slot step stores, with its indices and its shift as arithmetic. -/
theorem slotStepReadsAndWritesInOrder : Obligations.SlotStepReadsAndWritesInOrder := by
  intro s i shifted x a y pool b t
  have hA : slotA i s = a := by rw [slotA_eq, slotShift_eq_ite, partner_eq_ofNat]
  have hY : slotY i s = y := by rw [slotY_eq, hA, lookup_eq_ofNat]
  have hB : slotB i s = b := by rw [slotB_eq, hY, lookup2_eq_ofNat]
  refine ⟨fun k => ?_, fun k => ?_, hA, hB, rfl⟩
  · rw [slotStep_readMemory, hY]
  · rw [slotStep_readResults, hB]

/-- Settles O34: the first lookup reads the pool before the store and the second after it, so each corner is one of these two reads at a known index. -/
theorem slotStepAliasingCorners : Obligations.SlotStepAliasingCorners := by
  intro s i x t y
  have hy : y = slotY i s := (slotStep_readMemory i s i).trans (if_pos rfl)
  have hfirst : ∀ k, lookup x = k → y = s.readMemory k + t.a + s.b := fun k h => by
    rw [hy, slotY_eq, h]
    rfl
  have hsecond : t.b = (if lookup2 y = i then y else s.readMemory (lookup2 y)) + x := by rw [hy, ← slotB_eq, slotStep_b]
  refine ⟨hfirst i, fun h => ?_, hfirst (partner i), fun h => ?_, fun h => ?_, partner_ne i⟩
  · rw [hsecond, if_pos h]
  · rw [hsecond, h, if_neg (partner_ne i)]
  · rw [slotStep_a, slotA_eq, h, slotShift_zero, BitVec.xor_self, BitVec.zero_add]

/-- After a slot's own step, its word of the block is the new `b` (R107 (4)). -/
theorem slotSteps_readResults_same (k : Index) (s : State) :
    (slotSteps (k.toNat + 1) s).readResults k = (slotSteps (k.toNat + 1) s).b := by
  have hk : directIndex k.toNat = k := by simp [directIndex]
  rw [slotSteps_succ, hk, slotStep_b_eq_readResults]

/-- Slot `k` alone writes word `k` of the block (R107). -/
theorem slotSteps_readResults (s : State) {n : Nat} (hn : n ≤ 256) (k : Index) :
    (slotSteps n s).readResults k = if k.toNat < n then (slotSteps (k.toNat + 1) s).b else s.readResults k := by
  rw [slotSteps_of_only_slot (State.readResults · k) (fun i s hki => by rw [slotStep_readResults, if_neg hki]) s hn,
    slotSteps_readResults_same]

/-- Settles O36: after all 256 slots every word is its own slot's; the rest is the frame of `REGEN`. -/
theorem regenWritesEveryWordOnce : Obligations.RegenWritesEveryWordOnce := by
  intro s
  refine ⟨fun k => ⟨?_, ?_⟩, regen_c s, regen_b s, rfl, regen_cursor s, regen_valid s, regen_responses s, ?_⟩
  · exact (slotSteps_readResults (counterStep s) le_rfl k).trans (if_pos k.isLt)
  · exact (slotSteps_readMemory (counterStep s) le_rfl k).trans (if_pos k.isLt)
  · exact ⟨regen_commands s, regen_resetPending s, regen_resetCount s⟩

/-- Settles O37: `regen_congr`. -/
theorem regenReadsOnlyPoolAndAccumulators : Obligations.RegenReadsOnlyPoolAndAccumulators := fun _ _ hm ha hb hc =>
  regen_congr hm ha hb hc

end Sys2Proof.Machine

/-! # Faults and stops (spec/60_exceptions.md R125 to R132) -/

namespace Sys2Proof.Machine

variable {s t : State} {d : Word}

/-- The list of causes is complete (R125). -/
theorem FaultCause.code_cases (f : FaultCause) : f.code = 1#32 ∨ f.code = 2#32 ∨ f.code = 3#32 := by
  cases f with
  | illegalCommand => exact .inl rfl
  | seedTooLong => exact .inr (.inl rfl)
  | notInitialized => exact .inr (.inr rfl)

/-- An `INIT` that answers `ERR` did nothing but take a fault: a generator that was made is answered `OK` (R54, R127). -/
theorem initCommand_eq_takeFault {full : Bool} {seed : List Word}
    (hr : (initCommand full seed s).responses = s.responses ++ [⟨.err, d⟩]) : ∃ f, initCommand full seed s = s.takeFault f := by
  obtain ⟨-, e⟩ | ⟨-, e⟩ := initCommand_cases s full seed
  · exact ⟨.seedTooLong, e⟩
  · simp [e] at hr

/-- So did a `NEXT`: a value that was drawn is answered `OK` (R54, R128). -/
theorem execNext_eq_takeFault (h : execNext s = .next t) (hr : t.responses = s.responses ++ [⟨.err, d⟩]) : ∃ f, t = s.takeFault f := by
  obtain ⟨-, e⟩ | ⟨_, -, e⟩ | ⟨-, -, e⟩ := execNext_cases s
  · cases e.symm.trans h
    exact ⟨.notInitialized, rfl⟩
  · cases e.symm.trans h
    simp at hr
  · cases e.symm.trans h

theorem exec_eq_takeFault {i : Instr} (h : exec i s = .next t) (hr : t.responses = s.responses ++ [⟨.err, d⟩]) :
    ∃ f, t = s.takeFault f := by
  cases i with
  | initf seed =>
    cases h
    exact initCommand_eq_takeFault hr
  | inits seed =>
    cases h
    exact initCommand_eq_takeFault hr
  | next => exact execNext_eq_takeFault h hr

/-- A step that answers `ERR` took words off the command channel and took a fault: a reset and a wait answer nothing (R133, R145). -/
theorem step_eq_takeFault (h : step s = .next t) (hr : t.responses = s.responses ++ [⟨.err, d⟩]) :
    ∃ rest f, t = (s.setCommands rest).takeFault f := by
  obtain ⟨-, e⟩ | ⟨-, ⟨i, rest, -, e⟩ | ⟨_, rest, -, e⟩ | ⟨-, e⟩⟩ := step_cases s
  · cases e.symm.trans h
    simp at hr
  · exact ⟨rest, exec_eq_takeFault (e.symm.trans h) hr⟩
  · cases e.symm.trans h
    exact ⟨rest, .illegalCommand, rfl⟩
  · cases e.symm.trans h
    simp at hr

/-- Settles O13: an `ERR` step is a taken fault, which writes the two channels and answers the code of its cause. -/
theorem faultsLeaveNoTrace : Obligations.FaultsLeaveNoTrace := by
  intro s t d h hr
  obtain ⟨rest, f, rfl⟩ := step_eq_takeFault h hr
  have hd : f.code = d := by simpa using hr
  exact ⟨rfl, hd ▸ f.code_cases⟩

/-- Settles O14: an encoded command is read back, its payload taken, and an `INIT` with so long a seed only takes the fault. -/
theorem overlongSeedIsRejected : Obligations.OverlongSeedIsRejected := by
  intro s seed rest i hi hp hlong hlen hcmd
  have hw : i.WellFormed := by obtain rfl | rfl := hi <;> exact hlen
  have hd : decode s.commands = .command i rest := by rw [hcmd, decode_encode i rest hw]
  obtain ⟨full, hexec⟩ := exec_init hi
  rw [step_command s hp hd, hexec, initCommand_of_lt full hlong]
  rfl

/-- `NEXT` stops on an illegal cursor alone, and the invariant has none (R22 (c), R129). -/
theorem execNext_answers (hs : GeneratorInv s) : ∃ t, execNext s = .next t := by
  cases hv : s.valid with
  | false => exact ⟨_, execNext_of_not_valid hv⟩
  | true => exact ⟨_, execNext_of_legal hv (hs hv).1⟩

theorem exec_answers (hs : GeneratorInv s) (i : Instr) : ∃ t, exec i s = .next t := by
  cases i with
  | initf seed => exact ⟨_, exec_initf seed s⟩
  | inits seed => exact ⟨_, exec_inits seed s⟩
  | next => exact execNext_answers hs

/-- Settles O10: a command answers a next state under the invariant; a reset, an illegal header and the wait always do. -/
theorem noStepStopsUnderTheInvariant : Obligations.NoStepStopsUnderTheInvariant := by
  intro s hs
  obtain ⟨-, e⟩ | ⟨-, ⟨i, rest, -, e⟩ | ⟨_, rest, -, e⟩ | ⟨-, e⟩⟩ := step_cases s
  · exact ⟨_, e⟩
  · rw [e]
    exact exec_answers ((generatorInv_setCommands rest).mpr hs) i
  · exact ⟨_, e⟩
  · exact ⟨_, e⟩

end Sys2Proof.Machine

/-! # Reset, and the core before its first initialisation (spec/70_reset_and_hazards.md R145, R148) -/

namespace Sys2Proof.Machine

variable {s t : State} {d : Word}

/-- A reset leaves no word on the channel, so the first command sent after it is decoded from its header and runs on the state the reset left (R145). -/
theorem step_send_takeReset (s : State) {i : Instr} {ws : List Word} (hd : decode ws = .command i []) :
    step (s.takeReset.send ws) = exec i s.takeReset :=
  step_command (s.takeReset.send ws) rfl hd

/-- Settles O7: the step is `takeReset`, which clears `valid`, the command channel and the reset input, and keeps the responses. -/
theorem resetClearsValidAndDiscardsCommands : Obligations.ResetClearsValidAndDiscardsCommands := fun s hp =>
  ⟨s.takeReset, step_reset s hp, ⟨rfl, rfl, rfl⟩, rfl, fun _ _ hd => step_send_takeReset s hd⟩

/-- An `INIT` that answers `OK` answers no drawn value, and it made a generator (R54, R91). -/
theorem initCommand_ok {full : Bool} {seed : List Word} (hr : (initCommand full seed s).responses = s.responses ++ [⟨.ok, d⟩]) :
    d = 0#32 ∧ (initCommand full seed s).valid = true := by
  obtain ⟨-, e⟩ | ⟨-, e⟩ := initCommand_cases s full seed
  · simp [e] at hr
  · have hd : 0#32 = d := by simpa [e] using hr
    exact ⟨hd.symm, by simp [e]⟩

/-- With `valid` = 0 the two `INIT`s are the only commands that can answer `OK`: `NEXT` faults (R128). -/
theorem exec_ok_of_not_valid {i : Instr} (hv : s.valid = false) (h : exec i s = .next t) (hr : t.responses = s.responses ++ [⟨.ok, d⟩]) :
    d = 0#32 ∧ t.valid = true := by
  cases i with
  | initf seed =>
    cases h
    exact initCommand_ok hr
  | inits seed =>
    cases h
    exact initCommand_ok hr
  | next =>
    cases (execNext_of_not_valid hv).symm.trans h
    simp at hr

/-- Settles O30: `exec_ok_of_not_valid` for a command; a reset and a wait answer nothing, an illegal header answers `ERR`. -/
theorem noValueLeavesBeforeInitialisation : Obligations.NoValueLeavesBeforeInitialisation := by
  intro s t d hv h hr
  obtain ⟨-, e⟩ | ⟨-, ⟨i, rest, -, e⟩ | ⟨_, rest, -, e⟩ | ⟨-, e⟩⟩ := step_cases s
  · cases e.symm.trans h
    simp at hr
  · exact exec_ok_of_not_valid (s := s.setCommands rest) hv (e.symm.trans h) hr
  · cases e.symm.trans h
    simp at hr
  · cases e.symm.trans h
    simp at hr

end Sys2Proof.Machine
